-- ==== Sys2Proof/Word.lean ====
section
/-! DEFINITION. The words of the JT-840's links and the limits of its counts. -/

namespace Sys2Proof

/-- One byte on a link. -/
abbrev Byte := BitVec 8

/-- The greatest value of a 32-bit count (R7, R178). -/
abbrev max32 : Nat := 4294967295

/-- The greatest value of a 16-bit count (R27, R127, R136). -/
abbrev max16 : Nat := 65535

/-- The greatest position in track units (R5). -/
abbrev maxPos : Nat := 32767

end Sys2Proof
end

