-- ==== Sys2Proof/Syntax.lean ====
section
/-! DEFINITION. The commands of the JT-840: one constructor of `Instr` for each row of spec/opcode_table.json, with
the fields that the frame, report, expiry or line change behind it carries. -/

namespace Sys2Proof

/-- The three service ports (R159). -/
inductive PortId where
  | sp0 | sp1 | sp2
  deriving DecidableEq, Repr

/-- The two machine lines (R113). -/
inductive Line where
  | brk | tail
  deriving DecidableEq, Repr

/-- The four kinds of quantity a profile holds, coded from 0 in this order (R187). -/
inductive Kind where
  | bw | dw | mo | ca
  deriving DecidableEq, Repr

/-- The 45 setup items in the order of their ids 1..45 (R137). -/
inductive Item where
  | turnF | turnD | parkPos | indexF | indexD | binOrigin | binWidth | binCount | positionMode | slipTol
  | bwCurve | waterCurve | calRatio | calGain | zoneCount | zoneKind | shrinkCurve
  | stdInterval | stdSamples | driftLimit | airThreshold | edgeRun | edgeMargin | edgeTol | edgeAccept | breakSpan
  | holeMin | recoveryScans | recoveryTol | dwellBreakSamples | minSamples | filterBw | filterDw | filterMo | filterCa
  | holdLimit
  | dwellPeriod | headTimeout | moveTimeout | breakLineEnable | tailLineEnable | lineDebounce | tallyMode
  | holdThreshold | holdTime
  deriving DecidableEq, Repr

/-- A value offered by WRITE SETUP, as its field in the request holds it (chapter 11, Requests). -/
inductive Offered where
  /-- four bytes, for a scalar item -/
  | scalar (v : BitVec 32)
  /-- one byte, for an enumerated item -/
  | code (c : BitVec 8)
  /-- a point count of one byte and that many points of two bytes, for a curve item -/
  | curve (points : List (BitVec 16))
  deriving DecidableEq, Repr

/-- The target of a commit (R144). -/
inductive Target where
  | next
  | scan (n : BitVec 32)
  deriving DecidableEq, Repr

/-- The scan a READ PROFILE names (R96). -/
inductive ScanSelector where
  | latest
  | number (n : BitVec 32)
  deriving DecidableEq, Repr

/-- The requests of the index of chapter 9 with their fields, in the order of their codes 1..19, and a payload that
does not parse, with its first byte, the request code it is answered with, when it has one (R165). -/
inductive Request where
  | scanStart
  | scanStop
  | dwellAt (p : BitVec 16)
  | standardizeNow
  | clearFault
  | readStatus
  | readStandardization
  | readProfile (sel : ScanSelector) (kinds forms : BitVec 8) (first last : BitVec 16)
  | flushProfiles
  | resumeSheet
  | readAlarms
  | acknowledgeAlarm (id : BitVec 16)
  | writeSetup (item : BitVec 8) (value : Offered)
  | readSetup (item copy : BitVec 8)
  | discardStaging
  | commitSetup (target : Target)
  | subscribe (mask : BitVec 16)
  | readTallies (mask : BitVec 16) (clear : Bool)
  | clearTallies
  | malformed (code : Option (BitVec 8))
  deriving DecidableEq, Repr

/-- The fields of a checked SAMPLE frame as the head sends them (11.5): bits 0..5 of `flags` are shutter_open,
source_ok, caliper_contact, index_F, index_D and cal_range. -/
structure SampleFrame where
  seq     : BitVec 16
  pos     : BitVec 16
  bwCount : BitVec 24
  irAbs   : BitVec 24
  irRef   : BitVec 24
  calRaw  : BitVec 16
  flags   : BitVec 8
  deriving DecidableEq, Repr

/-- The commands, one constructor for each row of spec/opcode_table.json. -/
inductive Instr where
  | deviceReset
  | sample (f : SampleFrame)
  | arrived (number : BitVec 8) (pos : BitVec 16)
  | headStatus (flags : BitVec 8)
  | carriageFrameDiscarded
  | carriageFrameUnknownType
  | silenceTimerExpiry
  | moveTimerExpiry
  | lineLevelChange (line : Line) (level : Bool)
  | lineDebounceExpiry (line : Line)
  | finalized
  | requestArrival (port : PortId) (tag : BitVec 8) (payload : List Byte)
  | requestMalformed (port : PortId) (tag : BitVec 8) (payload : List Byte)
  | scanStartRequest (port : PortId) (tag : BitVec 8)
  | scanStop (port : PortId) (tag : BitVec 8)
  | dwellAt (port : PortId) (tag : BitVec 8) (p : BitVec 16)
  | standardizeNow (port : PortId) (tag : BitVec 8)
  | clearFault (port : PortId) (tag : BitVec 8)
  | readStatus (port : PortId) (tag : BitVec 8)
  | readStandardization (port : PortId) (tag : BitVec 8)
  | readProfile (port : PortId) (tag : BitVec 8) (sel : ScanSelector) (kinds forms : BitVec 8) (first last : BitVec 16)
  | flushProfiles (port : PortId) (tag : BitVec 8)
  | resumeSheet (port : PortId) (tag : BitVec 8)
  | readAlarms (port : PortId) (tag : BitVec 8)
  | acknowledgeAlarm (port : PortId) (tag : BitVec 8) (id : BitVec 16)
  | writeSetup (port : PortId) (tag : BitVec 8) (item : BitVec 8) (value : Offered)
  | readSetup (port : PortId) (tag : BitVec 8) (item copy : BitVec 8)
  | discardStaging (port : PortId) (tag : BitVec 8)
  | commitSetup (port : PortId) (tag : BitVec 8) (target : Target)
  | subscribe (port : PortId) (tag : BitVec 8) (mask : BitVec 16)
  | readTallies (port : PortId) (tag : BitVec 8) (mask : BitVec 16) (clear : Bool)
  | clearTallies (port : PortId) (tag : BitVec 8)
  | hold (port : PortId) (time : BitVec 16)
  | masterHoldExpiry (port : PortId)
  | partHoldExpiry (port : PortId)
  | portReset (port : PortId) (tag : BitVec 8)
  | serviceFrameDiscarded (port : PortId)
  | linkLineFall (port : PortId)
  | linkLineRise (port : PortId)
  | frameSent (port : PortId)
  deriving DecidableEq, Repr

end Sys2Proof
end

