-- ==== Sys2Proof/Machine/Items.lean ====
section
/-! DEFINITION. The table of the 45 setup items (R137): ids, classes, kinds and ranges, and the codes of the
enumerations a request names (R187). -/

namespace Sys2Proof

/-- The take-effect classes of chapter 8, section 8.1, coded from 0 in this order (R187). -/
inductive ItemClass where
  | atStandardize | atScanEnd | immediate
  deriving DecidableEq, Repr

/-- What an item's value is: a scalar in a range, one of some codes, or a curve of so many points, each at most so
much, rising (`true`) or falling (R137, R138). -/
inductive ItemShape where
  | scalar (lo hi : Nat)
  | enumerated (codes : Nat)
  | curve (count top : Nat) (rising : Bool)
  deriving DecidableEq, Repr

namespace Item

/-- The items in the order of their ids (R137). -/
def all : List Item :=
  [.turnF, .turnD, .parkPos, .indexF, .indexD, .binOrigin, .binWidth, .binCount, .positionMode, .slipTol,
   .bwCurve, .waterCurve, .calRatio, .calGain, .zoneCount, .zoneKind, .shrinkCurve,
   .stdInterval, .stdSamples, .driftLimit, .airThreshold, .edgeRun, .edgeMargin, .edgeTol, .edgeAccept, .breakSpan,
   .holeMin, .recoveryScans, .recoveryTol, .dwellBreakSamples, .minSamples, .filterBw, .filterDw, .filterMo,
   .filterCa, .holdLimit,
   .dwellPeriod, .headTimeout, .moveTimeout, .breakLineEnable, .tailLineEnable, .lineDebounce, .tallyMode,
   .holdThreshold, .holdTime]

/-- R137: the id of an item, 1..45. -/
def id (i : Item) : Nat := all.idxOf i + 1

/-- R137: the item of an id; none outside 1..45. -/
def ofId (n : Nat) : Option Item := if n = 0 then none else all[n - 1]?

/-- R137: ids 1..17 are AT_STANDARDIZE, 18..36 AT_SCAN_END and 37..45 IMMEDIATE. -/
def cls (i : Item) : ItemClass :=
  if i.id ≤ 17 then .atStandardize else if i.id ≤ 36 then .atScanEnd else .immediate

/-- R137: the values of an item. -/
def shape : Item → ItemShape
  | .turnF | .turnD | .parkPos | .indexF | .indexD | .binOrigin => .scalar 0 32767
  | .binWidth => .scalar 4 255
  | .binCount => .scalar 8 640
  | .positionMode => .enumerated 2
  | .slipTol => .scalar 0 63
  | .bwCurve | .waterCurve => .curve 33 65535 false
  | .calRatio => .scalar 256 4095
  | .calGain => .scalar 1 65535
  | .zoneCount => .scalar 0 160
  | .zoneKind => .enumerated 4
  | .shrinkCurve => .curve 17 32768 true
  | .stdInterval => .scalar 1 255
  | .stdSamples => .scalar 256 4096
  | .driftLimit => .scalar 1 2000
  | .airThreshold => .scalar 32768 65535
  | .edgeRun => .scalar 1 15
  | .edgeMargin => .scalar 0 2000
  | .edgeTol => .scalar 1 2000
  | .edgeAccept => .scalar 1 7
  | .breakSpan => .scalar 10 4000
  | .holeMin => .scalar 1 15
  | .recoveryScans => .scalar 1 7
  | .recoveryTol => .scalar 0 4000
  | .dwellBreakSamples => .scalar 8 1024
  | .minSamples => .scalar 1 15
  | .filterBw | .filterDw | .filterMo | .filterCa => .scalar 1 256
  | .holdLimit => .scalar 1 15
  | .dwellPeriod => .scalar 64 4096
  | .headTimeout => .scalar 5 200
  | .moveTimeout => .scalar 1 120
  | .breakLineEnable | .tailLineEnable => .enumerated 2
  | .lineDebounce => .scalar 0 1000
  | .tallyMode => .enumerated 2
  | .holdThreshold => .scalar 2 8
  | .holdTime => .scalar 1 65535

end Item

end Sys2Proof
end

