-- ==== Sys2Proof/Decode.lean ====
section
/-! DEFINITION. Reading and writing the frames the part receives (R186 to R188, chapter 11): byte order, CRC-16,
escaping, the checks of R162 and R3, and the request payloads with their encoder. `decodeTableWord` answers none: the
rows of spec/opcode_table.json give no bits. -/

namespace Sys2Proof

/-! ### Bytes -/

/-- A two-byte field, least significant byte first (chapter 11). -/
def le16 (a b : Byte) : BitVec 16 := b ++ a

/-- A three-byte field, least significant byte first. -/
def le24 (a b c : Byte) : BitVec 24 := c ++ (b ++ a)

/-- A four-byte field, least significant byte first. -/
def le32 (a b c d : Byte) : BitVec 32 := d ++ (c ++ (b ++ a))

/-- The bytes of a two-byte field. -/
def bytes16 (v : BitVec 16) : List Byte := [v.extractLsb' 0 8, v.extractLsb' 8 8]

/-- The bytes of a three-byte field. -/
def bytes24 (v : BitVec 24) : List Byte := [v.extractLsb' 0 8, v.extractLsb' 8 8, v.extractLsb' 16 8]

/-- The bytes of a four-byte field. -/
def bytes32 (v : BitVec 32) : List Byte :=
  [v.extractLsb' 0 8, v.extractLsb' 8 8, v.extractLsb' 16 8, v.extractLsb' 24 8]

/-! ### Framing (R186) -/

/-- One bit of the CRC-16 register: generator x¹⁶ + x¹² + x⁵ + 1, most significant bit first. -/
def crcShift (r : BitVec 16) : BitVec 16 := if r.msb then (r <<< 1) ^^^ 0x1021 else r <<< 1

/-- One byte into the CRC-16 register. -/
def crcByte (r : BitVec 16) (b : Byte) : BitVec 16 :=
  (crcShift ∘ crcShift ∘ crcShift ∘ crcShift ∘ crcShift ∘ crcShift ∘ crcShift ∘ crcShift) (r ^^^ (b ++ (0 : Byte)))

/-- R186: the CRC-16 of some bytes; the register starts at 0xFFFF, with no reflection and no final inversion. -/
def crc16 (bytes : List Byte) : BitVec 16 := bytes.foldl crcByte 0xFFFF

/-- The delimiter (11.1). -/
def delimiter : Byte := 0xA5

/-- The escape byte (R186). -/
def escapeByte : Byte := 0xA6

/-- R186: a frame body as sent, with 0xA5 as 0xA6 0x05 and 0xA6 as 0xA6 0x06. -/
def escape : List Byte → List Byte
  | [] => []
  | b :: rest =>
    if b = delimiter then escapeByte :: 0x05 :: escape rest
    else if b = escapeByte then escapeByte :: 0x06 :: escape rest
    else b :: escape rest

/-- R186: a frame body from the bytes between two delimiters; none when an escape byte is followed by any byte other
than 0x05 or 0x06, or by the closing delimiter. -/
def unescape : List Byte → Option (List Byte)
  | [] => some []
  | [b] => if b = escapeByte then none else some [b]
  | b :: c :: rest =>
    if b = escapeByte then
      if c = 0x05 then (unescape rest).map (delimiter :: ·)
      else if c = 0x06 then (unescape rest).map (escapeByte :: ·)
      else none
    else (unescape (c :: rest)).map (b :: ·)

/-- The pieces of a byte stream that close with a delimiter, the piece `acc` (reversed) being open. -/
def closedPieces (acc : List Byte) : List Byte → List (List Byte)
  | [] => []
  | b :: rest => if b = delimiter then acc.reverse :: closedPieces [] rest else closedPieces (b :: acc) rest

/-- R186: the raw frames of a byte stream that arrives while the port looks for a delimiter: what stands before the
first delimiter is passed over, and so are two delimiters with nothing between them. -/
def rawFrames (stream : List Byte) : List (List Byte) :=
  ((closedPieces [] stream).drop 1).filter (fun piece => !piece.isEmpty)

/-- A body closed by its CRC-16, escaped and put between delimiters (R186). -/
def wire (body : List Byte) : List Byte :=
  delimiter :: escape (body ++ bytes16 (crc16 body)) ++ [delimiter]

/-- A body less its last two bytes, when these are its CRC-16, low byte first (R186). -/
def checked (body : List Byte) : Option (List Byte) :=
  let front := body.take (body.length - 2)
  if 2 ≤ body.length ∧ body.drop (body.length - 2) = bytes16 (crc16 front) then some front else none

/-! ### Requests (chapter 11, Requests) -/

/-- The points of a curve, two bytes each; none when a byte is left over. -/
def parsePoints : List Byte → Option (List (BitVec 16))
  | [] => some []
  | [_] => none
  | a :: b :: rest => (parsePoints rest).map (le16 a b :: ·)

/-- The value field of WRITE SETUP, by the kind of its item; none when it does not hold the fields the item calls
for, or the item id is outside 1..45 (R138, R141, R187). -/
def parseOffered (item : BitVec 8) (fields : List Byte) : Option Offered :=
  match (Item.ofId item.toNat).map Item.shape, fields with
  | some (.scalar _ _), [a, b, c, d] => some (.scalar (le32 a b c d))
  | some (.enumerated _), [c] => some (.code c)
  | some (.curve _ _ _), n :: rest =>
    (parsePoints rest).bind fun points => if points.length = n.toNat then some (.curve points) else none
  | _, _ => none

/-- A flag field: 0 or 1 (R187). -/
def parseFlag (b : Byte) : Option Bool := if b = 0 then some false else if b = 1 then some true else none

/-- The selector of READ PROFILE: 0 LATEST, 1 number. DESIGN CHOICE: the number beside LATEST is ignored (log
entry 31). -/
def parseSelector (b : Byte) (n : BitVec 32) : Option ScanSelector :=
  if b = 0 then some .latest else if b = 1 then some (.number n) else none

/-- The target of COMMIT SETUP: 0 NEXT, 1 SCAN. DESIGN CHOICE: the number beside NEXT is ignored (log entry 31). -/
def parseTarget (b : Byte) (n : BitVec 32) : Option Target :=
  if b = 0 then some .next else if b = 1 then some (.scan n) else none

/-- The fields after a request code 1..19; none when the code is unknown, bytes are missing or left over, or a field
holds a code outside its set (R165, R187). -/
def parseFields (code : Nat) (fields : List Byte) : Option Request :=
  match code, fields with
  | 1, [] => some .scanStart
  | 2, [] => some .scanStop
  | 3, [a, b] => some (.dwellAt (le16 a b))
  | 4, [] => some .standardizeNow
  | 5, [] => some .clearFault
  | 6, [] => some .readStatus
  | 7, [] => some .readStandardization
  | 8, [s, n0, n1, n2, n3, kinds, forms, f0, f1, l0, l1] =>
    (parseSelector s (le32 n0 n1 n2 n3)).map fun sel => .readProfile sel kinds forms (le16 f0 f1) (le16 l0 l1)
  | 9, [] => some .flushProfiles
  | 10, [] => some .resumeSheet
  | 11, [] => some .readAlarms
  | 12, [a, b] => some (.acknowledgeAlarm (le16 a b))
  | 13, item :: value => (parseOffered item value).map (.writeSetup item)
  | 14, [item, copy] => some (.readSetup item copy)
  | 15, [] => some .discardStaging
  | 16, [t, n0, n1, n2, n3] => (parseTarget t (le32 n0 n1 n2 n3)).map .commitSetup
  | 17, [a, b] => some (.subscribe (le16 a b))
  | 18, [a, b, c] => (parseFlag c).map (.readTallies (le16 a b))
  | 19, [] => some .clearTallies
  | _, _ => none

/-- R165: the request of a REQUEST payload; `malformed` with the payload's first byte when it does not parse. -/
def parseRequest : List Byte → Request
  | [] => .malformed none
  | c :: fields => (parseFields c.toNat fields).getD (.malformed (some c))

/-- The request code (chapter 11, Requests); the first byte of a payload that does not parse, 0 when it has none. -/
def Request.code : Request → BitVec 8
  | .scanStart => 1
  | .scanStop => 2
  | .dwellAt _ => 3
  | .standardizeNow => 4
  | .clearFault => 5
  | .readStatus => 6
  | .readStandardization => 7
  | .readProfile _ _ _ _ _ => 8
  | .flushProfiles => 9
  | .resumeSheet => 10
  | .readAlarms => 11
  | .acknowledgeAlarm _ => 12
  | .writeSetup _ _ => 13
  | .readSetup _ _ => 14
  | .discardStaging => 15
  | .commitSetup _ => 16
  | .subscribe _ => 17
  | .readTallies _ _ => 18
  | .clearTallies => 19
  | .malformed c => c.getD 0

/-- The bytes of an offered value (chapter 11, Requests). -/
def encodeOffered : Offered → List Byte
  | .scalar v => bytes32 v
  | .code c => [c]
  | .curve points => BitVec.ofNat 8 points.length :: points.flatMap bytes16

/-- The bytes of a READ PROFILE selector and its scan number; a LATEST is sent with number 0. -/
def encodeSelector : ScanSelector → List Byte
  | .latest => 0 :: bytes32 0
  | .number n => 1 :: bytes32 n

/-- The bytes of a target. DESIGN CHOICE: a NEXT is sent with number 0, for which R187 gives no value (log entry 33). -/
def encodeTarget : Target → List Byte
  | .next => 0 :: bytes32 0
  | .scan n => 1 :: bytes32 n

/-- The fields of a request after its code (chapter 11, Requests). -/
def encodeFields : Request → List Byte
  | .dwellAt p => bytes16 p
  | .readProfile sel kinds forms first last =>
    encodeSelector sel ++ [kinds, forms] ++ bytes16 first ++ bytes16 last
  | .acknowledgeAlarm id => bytes16 id
  | .writeSetup item value => item :: encodeOffered value
  | .readSetup item copy => [item, copy]
  | .commitSetup target => encodeTarget target
  | .subscribe mask => bytes16 mask
  | .readTallies mask clear => bytes16 mask ++ [if clear then 1 else 0]
  | _ => []

/-- The payload of a REQUEST frame that carries a request (chapter 11, Requests). -/
def encodeRequest (r : Request) : List Byte := r.code :: encodeFields r

/-! ### Service frames (11.1, R161, R162) -/

/-- What an arriving service frame is: bad, or one of the three kinds a master sends. -/
inductive ServiceRead where
  | bad
  | request (tag : BitVec 8) (payload : List Byte)
  | hold (time : BitVec 16)
  | portReset (tag : BitVec 8)
  deriving DecidableEq, Repr

/-- R162: the fields of a checked body: kind, tag, payload length, payload. -/
def readServiceFields : List Byte → ServiceRead
  | kind :: tag :: l0 :: l1 :: payload =>
    if 512 < (le16 l0 l1).toNat ∨ (le16 l0 l1).toNat ≠ payload.length then .bad
    else if kind = 1 then .request tag payload
    else if kind = 5 then
      match payload with
      | [a, b] => .hold (le16 a b)
      | _ => .bad
    else if kind = 6 ∧ payload = [] then .portReset tag
    else .bad
  | _ => .bad

/-- R162, R186: what the bytes between two delimiters are. -/
def readService (raw : List Byte) : ServiceRead :=
  match (unescape raw).bind checked with
  | none => .bad
  | some front => readServiceFields front

/-- The body of a service frame before its CRC-16 (11.1). -/
def serviceBody (kind tag : Byte) (payload : List Byte) : List Byte :=
  kind :: tag :: bytes16 (BitVec.ofNat 16 payload.length) ++ payload

/-- The command that the bytes between two delimiters on a port give rise to (R162, R163, R166, R173). -/
def serviceCommand (port : PortId) (raw : List Byte) : Instr :=
  match readService raw with
  | .bad => .serviceFrameDiscarded port
  | .request tag payload => .requestArrival port tag payload
  | .hold time => .hold port time
  | .portReset tag => .portReset port tag

/-! ### Carriage-link frames from the head (11.5, R3, R188) -/

/-- R188: the command of a checked carriage-link body, less its CRC-16. DESIGN CHOICE: an empty one, a body of its
CRC-16 alone, is of unknown type (log entry 36). -/
def readCarriageFields : List Byte → Instr
  | [0x10, s0, s1, p0, p1, w0, w1, w2, a0, a1, a2, r0, r1, r2, c0, c1, flags] =>
    .sample ⟨le16 s0 s1, le16 p0 p1, le24 w0 w1 w2, le24 a0 a1 a2, le24 r0 r1 r2, le16 c0 c1, flags⟩
  | [0x11, number, p0, p1] => .arrived number (le16 p0 p1)
  | [0x12, flags] => .headStatus flags
  | _ => .carriageFrameUnknownType

/-- The command that the bytes between two delimiters on the carriage link give rise to (R3, R188). -/
def carriageCommand (raw : List Byte) : Instr :=
  match (unescape raw).bind checked with
  | none => .carriageFrameDiscarded
  | some front => readCarriageFields front

/-- The body, less its CRC-16, of a frame the head sends; none for a command that is no checked frame of the head. -/
def encodeHead : Instr → Option (List Byte)
  | .sample f =>
    some (0x10 :: bytes16 f.seq ++ bytes16 f.pos ++ bytes24 f.bwCount ++ bytes24 f.irAbs ++ bytes24 f.irRef
      ++ bytes16 f.calRaw ++ [f.flags])
  | .arrived number pos => some (0x11 :: number :: bytes16 pos)
  | .headStatus flags => some [0x12, flags]
  | _ => none

/-- The command that a word spells by the opcode table's bits: none, since no row of the table gives bits. -/
def decodeTableWord (_nbits _w : Nat) : Option Instr := none

end Sys2Proof
end

