-- ==== Sys2Proof/Config.lean ====
section
/-! DEFINITION. The values the spec leaves open: constants with no body, so that nothing in Lean can say which
value they have. Each is applied to the counter `State.freeCount` (log entry 10). -/

namespace Sys2Proof.Config

/-- DESIGN CHOICE: the request code carried by an answer to a REQUEST frame whose payload is empty, and which
therefore holds no request code to echo (R163, R165). -/
opaque emptyRequestCode : Nat → BitVec 8

/-- DESIGN CHOICE: a set's count of samples accepted after an increment from 4,294,967,295, the top of the range
that R73 gives it; no rule says what follows. -/
opaque samplesAcceptedPastTop : Nat → BitVec 32

end Sys2Proof.Config
end

