-- ==== Sys2Proof/Machine/State.lean ====
section
/-! DEFINITION. The state of the JT-840: every piece of state the spec gives its blocks, as plain data; the reasons a
step can stop; and the state right after reset. -/

namespace Sys2Proof.Machine

/-- One value for each service port (R159). -/
structure PerPort (α : Type) where
  sp0 : α
  sp1 : α
  sp2 : α
  deriving DecidableEq, Repr

/-- One value for each of the four kinds (chapter 5). -/
structure PerKind (α : Type) where
  bw : α
  dw : α
  mo : α
  ca : α
  deriving DecidableEq, Repr

/-- A set of ports (R127). -/
abbrev PortSet := PerPort Bool

/-! ### Carriage link and traverse controller (chapter 1) -/

/-- The caliper's two ranges (R1, 11.5). -/
inductive CalRange where
  | fine | coarse
  deriving DecidableEq, Repr

/-- The six head commands (R1). -/
inductive HeadCmd where
  | move (target : Nat)
  | park
  | dark
  | air
  | zero (range : CalRange)
  | stop
  deriving DecidableEq, Repr

/-- A head command as it goes out on the carriage link, with its command number (R1). -/
structure HeadFrame where
  number : BitVec 8
  cmd    : HeadCmd
  deriving DecidableEq, Repr

/-- State of the carriage link interface (R1 to R4). -/
structure CarriageLink where
  up          : Bool
  /-- The silence timer: stopped, or running with this duration in ms (R3). -/
  silence     : Option Nat
  lastSeq     : Option (BitVec 16)
  headPresent : Bool
  /-- The number of the last command issued (R1). -/
  cmdNo       : BitVec 8
  /-- The number of the last MOVE or PARK issued (R2). DESIGN CHOICE: none after device reset, for which R2 and R3 list no
  value (log entry 27). -/
  lastMotion  : Option (BitVec 8)
  deriving DecidableEq, Repr

/-- The traverse states, coded from 0 in this order (R7, R187). -/
inductive TravState where
  | idle | parking | standardizing | positioning | scanning | turnWait | dwelling | fault
  deriving DecidableEq, Repr

/-- The traverse intent; the p of DWELL(p) is `Traverse.dwellPos` (R7, R8). -/
inductive Intent where
  | off | scan | dwell
  deriving DecidableEq, Repr

/-- Scan direction (R15). -/
inductive Dir where
  | fwd | rev
  deriving DecidableEq, Repr

/-- What the head was last sent to by a MOVE (R14, R15). -/
inductive MoveTarget where
  | turnF | turnD | dwellPos
  deriving DecidableEq, Repr

/-- The current scan (R7, R15). -/
structure CurScan where
  number  : Nat
  dir     : Dir
  slipped : Bool
  deriving DecidableEq, Repr

/-- The dwell accumulator (R21). -/
structure DwellAcc where
  n    : Nat
  sBw  : Nat
  nMo  : Nat
  sW   : Nat
  sD   : Nat
  nCa  : Nat
  sC   : Nat
  air  : Nat
  deriving DecidableEq, Repr

/-- The dwell accumulator on entry to DWELLING: every field 0 (R21). -/
def DwellAcc.empty : DwellAcc := ⟨0, 0, 0, 0, 0, 0, 0, 0⟩

/-- State of the traverse controller (R7). -/
structure Traverse where
  state      : TravState
  intent     : Intent
  dwellPos   : Nat
  pos        : Nat
  atPark     : Bool
  /-- The move timer: stopped, or running with this duration in s (R10). -/
  moveTimer  : Option Nat
  stdDue     : Bool
  stdAtPark  : Bool
  failCount  : Nat
  sinceStd   : Nat
  scanNumber : Nat
  cur        : Option CurScan
  dwell      : DwellAcc
  /-- The recorded target of the last MOVE (R14): where the head stands in TURN_WAIT (R18). -/
  target     : Option MoveTarget
  deriving DecidableEq, Repr

/-! ### Standardization unit (chapter 2) -/

/-- The four phases, in order (R29). -/
inductive Phase where
  | dark | air | zeroF | zeroC
  deriving DecidableEq, Repr

/-- The results of a standardization (R34). -/
inductive StdResult where
  | pass | drift | failShutter | failSource | failIr | failDrift
  deriving DecidableEq, Repr

/-- A standardization record (R34). -/
structure StdRecord where
  number : Nat
  result : StdResult
  cd     : Nat
  c0     : Nat
  a0     : Nat
  b0     : Nat
  q0     : Nat
  zf     : Int
  zc     : Int
  drift  : Option Nat
  scan   : Nat
  deriving DecidableEq, Repr

/-- A standardization in flight (R27, R29 to R31). `taken` counts the samples the phase in flight has taken. -/
structure StdFlight where
  phase        : Phase
  counting     : Bool
  taken        : Nat
  nDark        : Nat
  sDark        : Nat
  nAir         : Nat
  sAirBw       : Nat
  sAirAbs      : Nat
  sAirRef      : Nat
  nFine        : Nat
  sFine        : Int
  nCoarse      : Nat
  sCoarse      : Int
  shutterError : Bool
  samples      : Nat
  driftLimit   : Nat
  deriving DecidableEq, Repr

/-- State of the standardization unit (R27). -/
structure StdUnit where
  current    : Option StdRecord
  previous   : Option StdRecord
  stale      : Bool
  nextNumber : Nat
  retry      : Option Nat
  lastResult : Option (Nat × StdResult)
  flight     : Option StdFlight
  deriving DecidableEq, Repr

/-! ### Edge and bin unit (chapter 4) -/

/-- A pair of sheet edges, front and back (R67). -/
structure Edges where
  front : Nat
  back  : Nat
  deriving DecidableEq, Repr

/-- The edges of one scan with their width (R62). -/
structure ScanEdges where
  front : Nat
  back  : Nat
  width : Nat
  deriving DecidableEq, Repr

/-- The counts and sums of one bin (R71). DESIGN CHOICE: R71 speaks of five sums and its table lists four; the model holds
the table's four (log entry 28). -/
structure Bin where
  nBw : Nat
  sBw : Nat
  nMo : Nat
  sW  : Nat
  sD  : Nat
  nCa : Nat
  sC  : Nat
  deriving DecidableEq, Repr

/-- A cleared bin (R74 step 5). -/
def Bin.empty : Bin := ⟨0, 0, 0, 0, 0, 0, 0⟩

/-- The states of an accumulator set, coded from 0 in this order (R73, R187). -/
inductive SetState where
  | free | accumulating | waiting | finalizing
  deriving DecidableEq, Repr

/-- The parameter snapshot of a set (R74 step 4). -/
structure Snapshot where
  generation   : Nat
  stdNumber    : Nat
  binOrigin    : Nat
  binWidth     : Nat
  binCount     : Nat
  zoneCount    : Nat
  zoneKind     : Kind
  shrinkCurve  : List Nat
  airThreshold : Nat
  edgeRun      : Nat
  edgeMargin   : Nat
  edgeTol      : Nat
  edgeAccept   : Nat
  breakSpan    : Nat
  holeMin      : Nat
  minSamples   : Nat
  filterBw     : Nat
  filterDw     : Nat
  filterMo     : Nat
  filterCa     : Nat
  holdLimit    : Nat
  deriving DecidableEq, Repr

/-- One accumulator set (R73). -/
structure AccSet where
  state    : SetState
  scan     : Nat
  dir      : Dir
  slipped  : Bool
  stale    : Bool
  recovery : Bool
  edges    : Option ScanEdges
  mapping  : Option Edges
  snap     : Snapshot
  bins     : List Bin
  accepted : BitVec 32
  deriving DecidableEq, Repr

/-- DESIGN CHOICE: the content of a FREE set, which R73 calls not meaningful (log entry 13). -/
def AccSet.free : AccSet :=
  { state := .free, scan := 0, dir := .fwd, slipped := false, stale := false, recovery := false, edges := none,
    mapping := none,
    snap := ⟨0, 0, 0, 0, 0, 0, .bw, [], 0, 0, 0, 0, 0, 0, 0, 0, 0, 0, 0, 0, 0⟩,
    bins := [], accepted := 0 }

/-- An air run in a scan (R59, R63). -/
structure AirRun where
  first  : Nat
  count  : Nat
  inSpan : Bool
  reach  : Bool
  sent   : Bool
  deriving DecidableEq, Repr

/-- The scan tracker (R59). -/
structure Tracker where
  sheetRun   : Nat
  sheetFirst : Option Nat
  leading    : Option Nat
  trailing   : Option Nat
  air        : Option AirRun
  fill       : Option Nat
  deriving DecidableEq, Repr

/-- The scan tracker at scan start (R59). -/
def Tracker.fresh : Tracker := ⟨0, none, none, none, none, none⟩

/-- The two accumulator sets (R58). -/
inductive SetId where
  | x | y
  deriving DecidableEq, Repr

/-- State of the edge and bin unit (R58). The finalizer is busy exactly with the set in FINALIZING (R78). -/
structure EdgeUnit where
  x       : AccSet
  y       : AccSet
  mapping : Option Edges
  jumps   : Nat
  tracker : Option Tracker
  deriving DecidableEq, Repr

/-! ### Ring entries and the profile ring (chapters 5 and 6) -/

/-- Raw bin states, coded from 0 in this order (R82, R187). -/
inductive RawState where
  | off | edge | thin | on
  deriving DecidableEq, Repr

/-- Filtered bin states, coded from 0 in this order (R83, R187). -/
inductive FiltState where
  | invalid | on | held
  deriving DecidableEq, Repr

/-- The filtered part of one kind in one bin (R83). -/
structure FiltPart where
  state : FiltState
  value : Option Nat
  age   : Nat
  deriving DecidableEq, Repr

/-- One kind in one bin of a ring entry (R90). -/
structure Cell where
  raw      : Option Nat
  rawState : RawState
  filt     : FiltPart
  deriving DecidableEq, Repr

/-- The statistics of one kind with at least one ON bin (R87). -/
structure Stats where
  m     : Nat
  mean  : Nat
  sig2  : Nat
  least : Nat
  most  : Nat
  deriving DecidableEq, Repr

/-- One zone: its value, absent when EMPTY, and its bin count (R106). -/
structure Zone where
  value : Option Nat
  count : Nat
  deriving DecidableEq, Repr

/-- A zone profile (R107). -/
structure ZoneProfile where
  kind   : Kind
  zones  : List Zone
  bounds : List Nat
  deriving DecidableEq, Repr

/-- The header of a ring entry (R90). -/
structure EntryHeader where
  scan         : Nat
  dir          : Dir
  edges        : ScanEdges
  mapping      : Option Edges
  slipped      : Bool
  stale        : Bool
  recovery     : Bool
  reseeded     : Bool
  controlValid : Bool
  generation   : Nat
  stdNumber    : Nat
  binOrigin    : Nat
  binWidth     : Nat
  binCount     : Nat
  accepted     : BitVec 32
  stats        : PerKind (Option Stats)
  deriving DecidableEq, Repr

/-- A ring entry (R90) with its removal mark (R92). -/
structure RingEntry where
  header : EntryHeader
  body   : PerKind (List Cell)
  zones  : Option ZoneProfile
  marked : Bool
  deriving DecidableEq, Repr

/-- State of the profile ring (R86, R92); entries oldest first. -/
structure Ring where
  entries       : List RingEntry
  pins          : PerPort (Option Nat)
  reseedPending : Bool
  breakScan     : Nat
  flush         : Bool
  deriving DecidableEq, Repr

/-! ### Break monitor and alarm list (chapter 7) -/

/-- The break states, coded from 0 in this order (R113, R187). -/
inductive BreakState where
  | unproven | sheetOn | brk | threading | recovery
  deriving DecidableEq, Repr

/-- Causes of break-state changes, coded from 0 in this order (R123, R187). -/
inductive Cause where
  | line | airRun | noSheet | dwellAir | tail | resume | scans
  deriving DecidableEq, Repr

/-- One machine line (R113): level as last seen, debounced state (true is ASSERTED), and the debounce timer, stopped
or running with this duration in ms. -/
structure LineState where
  level     : Bool
  debounced : Bool
  timer     : Option Nat
  deriving DecidableEq, Repr

/-- State of the break monitor (R113); `output` is true when ASSERTED. -/
structure BreakMonitor where
  state      : BreakState
  recovery   : Nat
  refWidth   : Option Nat
  stdInBreak : Bool
  brk        : LineState
  tail       : LineState
  output     : Bool
  deriving DecidableEq, Repr

/-- Alarm kinds, coded from 0 in this order (R127, R187). -/
inductive AlarmKind where
  | brk | hole | edgeJump | positionSlip | stdDrift | stdFail
  deriving DecidableEq, Repr

/-- Alarm states (R127). -/
inductive AlarmState where
  | active | cleared
  deriving DecidableEq, Repr

/-- An alarm record (R127). -/
structure Alarm where
  id       : Nat
  kind     : AlarmKind
  state    : AlarmState
  cause    : Option Cause
  scan     : Nat
  pos      : Option Nat
  rebreaks : Nat
  needed   : PortSet
  acked    : PortSet
  deriving DecidableEq, Repr

/-- State of the alarm list (R127); records in the order raised. -/
structure AlarmList where
  records : List Alarm
  nextId  : Nat
  deriving DecidableEq, Repr

/-! ### Setup store (chapter 8) -/

/-- POSITION_MODE (R137). -/
inductive PositionMode where
  | encoder | reckoned
  deriving DecidableEq, Repr

/-- TALLY_MODE (R137). -/
inductive TallyMode where
  | wrap | freeze
  deriving DecidableEq, Repr

/-- The value of one item in a staging list or the armed set: as R138 gives it. An unloaded curve, which only the
active setup can hold, has no points. -/
inductive SetupValue where
  | scalar (v : Nat)
  | code (c : Nat)
  | curve (points : List Nat)
  deriving DecidableEq, Repr

/-- One value for each of the 45 items (R137); an unloaded curve is `none`. -/
structure Setup where
  turnF             : Nat
  turnD             : Nat
  parkPos           : Nat
  indexF            : Nat
  indexD            : Nat
  binOrigin         : Nat
  binWidth          : Nat
  binCount          : Nat
  positionMode      : PositionMode
  slipTol           : Nat
  bwCurve           : Option (List Nat)
  waterCurve        : Option (List Nat)
  calRatio          : Nat
  calGain           : Nat
  zoneCount         : Nat
  zoneKind          : Kind
  shrinkCurve       : List Nat
  stdInterval       : Nat
  stdSamples        : Nat
  driftLimit        : Nat
  airThreshold      : Nat
  edgeRun           : Nat
  edgeMargin        : Nat
  edgeTol           : Nat
  edgeAccept        : Nat
  breakSpan         : Nat
  holeMin           : Nat
  recoveryScans     : Nat
  recoveryTol       : Nat
  dwellBreakSamples : Nat
  minSamples        : Nat
  filterBw          : Nat
  filterDw          : Nat
  filterMo          : Nat
  filterCa          : Nat
  holdLimit         : Nat
  dwellPeriod       : Nat
  headTimeout       : Nat
  moveTimeout       : Nat
  breakLineEnable   : Bool
  tailLineEnable    : Bool
  lineDebounce      : Nat
  tallyMode         : TallyMode
  holdThreshold     : Nat
  holdTime          : Nat
  deriving DecidableEq, Repr

/-- The defaults of R137. -/
def Setup.defaults : Setup where
  turnF := 400
  turnD := 20800
  parkPos := 100
  indexF := 500
  indexD := 20700
  binOrigin := 600
  binWidth := 100
  binCount := 200
  positionMode := .encoder
  slipTol := 8
  bwCurve := none
  waterCurve := none
  calRatio := 1024
  calGain := 1024
  zoneCount := 0
  zoneKind := .dw
  shrinkCurve := [0, 2048, 4096, 6144, 8192, 10240, 12288, 14336, 16384, 18432, 20480, 22528, 24576, 26624, 28672,
    30720, 32768]
  stdInterval := 20
  stdSamples := 1024
  driftLimit := 200
  airThreshold := 62000
  edgeRun := 4
  edgeMargin := 100
  edgeTol := 60
  edgeAccept := 3
  breakSpan := 400
  holeMin := 2
  recoveryScans := 2
  recoveryTol := 200
  dwellBreakSamples := 64
  minSamples := 3
  filterBw := 64
  filterDw := 64
  filterMo := 64
  filterCa := 64
  holdLimit := 3
  dwellPeriod := 512
  headTimeout := 20
  moveTimeout := 30
  breakLineEnable := true
  tailLineEnable := true
  lineDebounce := 50
  tallyMode := .wrap
  holdThreshold := 6
  holdTime := 100

/-- A staged entry (R140). -/
structure Staged where
  item  : Item
  value : SetupValue
  deriving DecidableEq, Repr

/-- An armed entry (R149). -/
structure Armed where
  item   : Item
  value  : SetupValue
  target : Target
  port   : PortId
  deriving DecidableEq, Repr

/-- State of the setup store (R136); the armed set in ascending item id. -/
structure SetupStore where
  active     : Setup
  armed      : List Armed
  staging    : PerPort (List Staged)
  generation : Nat
  groupMark  : Bool
  deriving DecidableEq, Repr

/-! ### Tally bank (chapter 10) -/

/-- The fourteen tallies in the order of their ids 1..14. -/
inductive TallyId where
  | scansComplete | scansBroken | scansStopped | scansFaulted | breaks | holes | edgeJumps
  | positionSlips | stdFailures | samplesRejected | samplesMissing | binSaturations | noticesDropped | framesBad
  deriving DecidableEq, Repr

/-- One tally (R178). -/
structure Tally where
  value : Nat
  half  : Bool
  deriving DecidableEq, Repr

/-- A tally after device reset (R178). -/
def Tally.zero : Tally := ⟨0, false⟩

/-- State of the tally bank (R178). -/
structure TallyBank where
  scansComplete   : Tally
  scansBroken     : Tally
  scansStopped    : Tally
  scansFaulted    : Tally
  breaks          : Tally
  holes           : Tally
  edgeJumps       : Tally
  positionSlips   : Tally
  stdFailures     : Tally
  samplesRejected : Tally
  samplesMissing  : Tally
  binSaturations  : Tally
  noticesDropped  : Tally
  framesBad       : Tally
  deriving DecidableEq, Repr

/-- Every tally 0 with its flag clear (R178, R184). -/
def TallyBank.zero : TallyBank :=
  ⟨.zero, .zero, .zero, .zero, .zero, .zero, .zero, .zero, .zero, .zero, .zero, .zero, .zero, .zero⟩

/-! ### Frames, notices, responses and the ports (chapters 9 and 11) -/

/-- End codes of a scan, coded from 0 in this order (R17, R187). -/
inductive EndCode where
  | complete | broken | stopped | headFault
  deriving DecidableEq, Repr

/-- Events of an ALARM notice (R133). -/
inductive AlarmEvent where
  | raised | cleared | rebreak
  deriving DecidableEq, Repr

/-- Apply points (R155). -/
inductive ApplyPoint where
  | commit | scanStart | scanEnd | standardize
  deriving DecidableEq, Repr

/-- The notices with their fields, in the order of their kind codes 1..10 (chapter 9, 9.6). -/
inductive Notice where
  /-- R17 -/
  | scanEnd (scan : Nat) (dir : Dir) (code : EndCode)
  /-- R91 -/
  | profileReady (scan : Nat) (dir : Dir) (slipped stale recovery reseeded controlValid zones : Bool)
      (generation : Nat)
  /-- R123 -/
  | breakState (new prev : BreakState) (cause : Cause) (scan : Nat) (output : Bool) (refWidth : Option Nat)
      (rebreaks : Nat)
  /-- R133 -/
  | alarm (event : AlarmEvent) (record : Alarm)
  /-- R39 -/
  | stdDone (record : StdRecord) (stale : Bool) (failCount : Nat)
  /-- R155 -/
  | setupApplied (generation items : Nat) (point : ApplyPoint) (scan : Nat)
  /-- R148 -/
  | setupSuperseded (items : List Item) (byPort : PortId) (target : Target) (atOnce : List Bool)
  /-- R181 -/
  | tallyMark (tally : TallyId) (value : Nat) (mode : TallyMode)
  /-- R7 -/
  | traverseState (state : TravState) (intent : Intent) (dwellPos scan pos : Nat)
  /-- R21 -/
  | dwellAverage (dwellPos scan n bw : Nat) (mo ca : Option Nat)
  deriving DecidableEq, Repr

/-- The response codes, coded from 0 in this order (R175, R187). -/
inductive RespCode where
  | done | clamped | full | wrongState | notReady | notHeld | noData | unknownId | notNeeded | inconsistent
  | badValue | tooLate | lineActive | malformed
  deriving DecidableEq, Repr

/-- The snapshot READ STATUS returns (R26). -/
structure StatusReport where
  state       : TravState
  intent      : Intent
  dwellPos    : Nat
  pos         : Nat
  atPark      : Bool
  stdDue      : Bool
  stdAtPark   : Bool
  linkUp      : Bool
  headPresent : Bool
  failCount   : Nat
  sinceStd    : Nat
  scanNumber  : Nat
  cur         : Option CurScan
  setX        : SetState × Option Nat
  setY        : SetState × Option Nat
  mapping     : Option Edges
  breakState  : BreakState
  stdNumber   : Option Nat
  stale       : Bool
  generation  : Nat
  occupancy   : Nat
  deriving DecidableEq, Repr

/-- What READ STANDARDIZATION reports of a standardization in flight (R40). -/
structure FlightReport where
  phase        : Phase
  counting     : Bool
  counted      : Nat
  shutterError : Bool
  samples      : Nat
  driftLimit   : Nat
  deriving DecidableEq, Repr

/-- The snapshot READ STANDARDIZATION returns (R40). -/
structure StdReport where
  current    : Option StdRecord
  previous   : Option StdRecord
  stale      : Bool
  lastResult : Option (Nat × StdResult)
  retry      : Option Nat
  stdDue     : Bool
  stdAtPark  : Bool
  failCount  : Nat
  nextNumber : Nat
  flight     : Option FlightReport
  deriving DecidableEq, Repr

/-- What READ ALARMS reports of one machine line (R135). -/
structure LineReport where
  enable    : Bool
  level     : Bool
  debounced : Bool
  running   : Bool
  deriving DecidableEq, Repr

/-- The snapshot READ ALARMS returns (R135). -/
structure AlarmReport where
  state      : BreakState
  recovery   : Nat
  refWidth   : Option Nat
  stdInBreak : Bool
  brk        : LineReport
  tail       : LineReport
  output     : Bool
  nextId     : Nat
  records    : List Alarm
  deriving DecidableEq, Repr

/-- The header of a profile transfer (R96, 11.3). -/
structure TransferHeader where
  header    : EntryHeader
  zoneKind  : Option Kind
  zoneCount : Nat
  first     : Nat
  last      : Nat
  segments  : Nat
  deriving DecidableEq, Repr

/-- One entry of a tally response (R182). -/
structure TallyRead where
  tally   : TallyId
  value   : Nat
  half    : Bool
  frozen  : Bool
  cleared : Bool
  deriving DecidableEq, Repr

/-- The fields of a response after its code, by the rule that owns the request. -/
inductive RespBody where
  | empty
  /-- CLAMPED from DWELL AT: the position used (R20, R175) -/
  | position (p : Nat)
  /-- R26 -/
  | status (r : StatusReport)
  /-- R40 -/
  | standardization (r : StdReport)
  /-- R96 -/
  | header (h : TransferHeader)
  /-- R135 -/
  | alarms (r : AlarmReport)
  /-- FULL at arrival: the inbound occupancy (R163) -/
  | occupancy (n : Nat)
  /-- FULL from WRITE SETUP: the entries in the staging list (chapter 11, Responses) -/
  | stagingCount (n : Nat)
  /-- CLAMPED from WRITE SETUP: the value as staged (R141) -/
  | stagedValue (v : SetupValue)
  /-- READ SETUP of the ACTIVE copy (R143) -/
  | activeItem (item : Item) (value : SetupValue) (generation : Nat)
  /-- READ SETUP of an armed entry (R143) -/
  | armedItem (value : SetupValue) (target : Target) (port : PortId)
  /-- READ SETUP with NO_DATA: the item (R143) -/
  | itemId (item : Item)
  /-- INCONSISTENT: the constraint and the offending item (R144) -/
  | offender (constraint : Nat) (item : Item)
  /-- COMMIT SETUP DONE: entries applied at once and armed (R144) -/
  | committed (applied armed : Nat)
  /-- SUBSCRIBE DONE: the new set (R172) -/
  | subscription (mask : BitVec 10)
  /-- R182 -/
  | tallies (mode : TallyMode) (entries : List TallyRead)
  deriving DecidableEq, Repr

/-- A response (R165): tag, request code, taken mark, response code and fields. -/
structure Response where
  tag   : BitVec 8
  req   : BitVec 8
  taken : Bool
  code  : RespCode
  body  : RespBody
  deriving DecidableEq, Repr

/-- The items of one segment (R97). -/
inductive SegItems where
  | raw (items : List (Option Nat × RawState))
  | filtered (items : List FiltPart)
  | zones (items : List Zone)
  | bounds (items : List Nat)
  deriving DecidableEq, Repr

/-- A segment of a profile transfer (R97). -/
structure Segment where
  tag   : BitVec 8
  kind  : Kind
  first : Nat
  final : Bool
  items : SegItems
  deriving DecidableEq, Repr

/-- A frame the part sends on a port (R161). -/
inductive TxFrame where
  | response (r : Response)
  | segment (g : Segment)
  | notice (n : Notice) (overrun : Bool)
  | hold (time : Nat)
  | portReset (tag : BitVec 8)
  deriving DecidableEq, Repr

/-- The list a frame in sending came from (R167); `orphan` when a port reset has emptied that list since (R173). -/
inductive TxSource where
  | resetAnswer | partHold | refusal | engine | notice | orphan
  deriving DecidableEq, Repr

/-- The frame being sent, and whether a notice was dropped since its sending began (R171). -/
structure Sending where
  frame   : TxFrame
  source  : TxSource
  dropped : Bool
  deriving DecidableEq, Repr

/-- A request held by the engine: the frames of its response, or of its transfer, not yet sent (R165, R98). -/
structure Job where
  frames   : List TxFrame
  transfer : Bool
  deriving DecidableEq, Repr

/-- A request in the inbound queue (R163). -/
structure Queued where
  tag : BitVec 8
  req : Request
  deriving DecidableEq, Repr

/-- State of one service port (R159). -/
structure Port where
  linkUp      : Bool
  inbound     : List Queued
  refusals    : List Response
  engine      : Option Job
  notices     : List Notice
  overrun     : Bool
  subs        : BitVec 10
  /-- The master hold: absent, or in force with its timer running for this duration in ms (R166). -/
  masterHold  : Option Nat
  /-- The model's own: a HOLD has restarted the master hold timer while an expiry of it was waiting in the queue, so that the
  next MASTER_HOLD_EXPIRY is that of the timer as it ran before and ends nothing (R177; log entry 34). -/
  overtaken   : Bool
  holdSent    : Bool
  /-- The part hold timer: stopped, or running with this duration in ms (R164). -/
  partTimer   : Option Nat
  /-- HOLD frames that the part has formed and not yet sent (R164, R167). DESIGN CHOICE: a later one supersedes no earlier
  one, and all are sent in the order formed (log entry 29). -/
  holdsOut    : List Nat
  /-- The pending reset answer with the tag it echoes (R173). -/
  resetAnswer : Option (BitVec 8)
  sending     : Option Sending
  deriving DecidableEq, Repr

/-- A port after device reset, its link line as given (R159, R175). -/
def Port.afterReset (line : Bool) : Port :=
  { linkUp := line, inbound := [], refusals := [], engine := none, notices := [], overrun := false, subs := 0,
    masterHold := none, overtaken := false, holdSent := false, partTimer := none, holdsOut := [], resetAnswer := none,
    sending := none }

/-! ### The whole part -/

/-- Why a command could stop the model: no rule of the spec stops the part, so there is no such reason. A head fault
is a traverse transition (R23), a refused request a response code (R175), a bad frame a tally (R162). -/
inductive Fault where
  deriving DecidableEq, Repr

/-- Why a command has no meaning. -/
inductive Refusal where
  /-- Raised by `exec` alone, for a row of the opcode table that has no meaning yet. Safe: the model stops. -/
  | notModelled (mnemonic : String)
  deriving DecidableEq, Repr

/-- The state of the JT-840, block by block (chapter 0, Block Overview), with the model's own three fields last. -/
structure State where
  link       : CarriageLink
  trav       : Traverse
  std        : StdUnit
  edge       : EdgeUnit
  ring       : Ring
  mon        : BreakMonitor
  alarms     : AlarmList
  setup      : SetupStore
  ports      : PerPort Port
  tallies    : TallyBank
  /-- The head command frames put on the carriage link so far, oldest first (the model's own, log entry 2). -/
  carriageTx : List HeadFrame
  /-- The counter the free values of `Config` are applied to (the model's own, log entry 10). -/
  freeCount  : Nat
  /-- The commands waiting, first in first out (the model's own, log entry 1). -/
  pending    : List Instr
  deriving DecidableEq, Repr

/-- A machine line after device reset, its level as given and the line enabled by default: DEASSERTED, and its timer
running with the default LINE_DEBOUNCE of 50 ms when the level is asserted (R115). -/
def LineState.afterReset (level : Bool) : LineState := ⟨level, false, if level then some 50 else none⟩

/-- The part right after device reset (R3, R7, R27, R58, R78, R86, R92, R113, R127, R136, R158, R159, R175, R178), with
the break line, the tail line and the three link lines at the given levels. DESIGN CHOICE: no rule lists the number of
the last motion command or the recorded target, and both are none (log entries 27 and 14). -/
def State.afterReset (brk tail : Bool) (lines : PerPort Bool) : State where
  link := { up := false, silence := none, lastSeq := none, headPresent := false, cmdNo := 0, lastMotion := none }
  trav := { state := .idle, intent := .off, dwellPos := 0, pos := 0, atPark := false, moveTimer := none,
            stdDue := true, stdAtPark := false, failCount := 0, sinceStd := 0, scanNumber := 0, cur := none,
            dwell := .empty, target := none }
  std := { current := none, previous := none, stale := false, nextNumber := 1, retry := none, lastResult := none,
           flight := none }
  edge := { x := .free, y := .free, mapping := none, jumps := 0, tracker := none }
  ring := { entries := [], pins := ⟨none, none, none⟩, reseedPending := false, breakScan := 0, flush := false }
  mon := { state := .unproven, recovery := 0, refWidth := none, stdInBreak := false, brk := .afterReset brk,
           tail := .afterReset tail, output := false }
  alarms := { records := [], nextId := 1 }
  setup := { active := .defaults, armed := [], staging := ⟨[], [], []⟩, generation := 0, groupMark := false }
  ports := ⟨.afterReset lines.sp0, .afterReset lines.sp1, .afterReset lines.sp2⟩
  tallies := .zero
  carriageTx := []
  freeCount := 0
  pending := []

/-- The part right after power-up. DESIGN CHOICE: the pins, which the spec takes as they stand, are all deasserted
(log entry 3). -/
def State.reset : State := State.afterReset false false ⟨false, false, false⟩

end Sys2Proof.Machine
end

