-- ==== Sys2Proof/Machine/Flags.lean ====
section
/-! DEFINITION. The conditions the rules test: the break states that permit scanning, ended scans and reached targets,
the due AT_STANDARDIZE group, acknowledged alarms, subscriptions and half marks. -/

namespace Sys2Proof.Machine

/-- The value of one port. -/
def PerPort.get {α : Type} (v : PerPort α) : PortId → α
  | .sp0 => v.sp0
  | .sp1 => v.sp1
  | .sp2 => v.sp2

/-- The values with that of one port replaced. -/
def PerPort.set {α : Type} (v : PerPort α) : PortId → α → PerPort α
  | .sp0, a => { v with sp0 := a }
  | .sp1, a => { v with sp1 := a }
  | .sp2, a => { v with sp2 := a }

/-- The value of one kind. -/
def PerKind.get {α : Type} (v : PerKind α) : Kind → α
  | .bw => v.bw
  | .dw => v.dw
  | .mo => v.mo
  | .ca => v.ca

/-- One value formed for each kind. -/
def PerKind.of {α : Type} (f : Kind → α) : PerKind α := ⟨f .bw, f .dw, f .mo, f .ca⟩

/-- The empty set of ports. -/
def PortSet.none : PortSet := ⟨false, false, false⟩

/-- R132: every port of the first set is in the second. -/
def PortSet.subset (a b : PortSet) : Bool := (!a.sp0 || b.sp0) && (!a.sp1 || b.sp1) && (!a.sp2 || b.sp2)

/-- R8, R113: the break state permits scanning in UNPROVEN, SHEET_ON and RECOVERY. -/
def BreakState.permits : BreakState → Bool
  | .unproven | .sheetOn | .recovery => true
  | .brk | .threading => false

/-- The code of a notice kind, 1..10 (11.4). -/
def Notice.code : Notice → Nat
  | .scanEnd .. => 1
  | .profileReady .. => 2
  | .breakState .. => 3
  | .alarm .. => 4
  | .stdDone .. => 5
  | .setupApplied .. => 6
  | .setupSuperseded .. => 7
  | .tallyMark .. => 8
  | .traverseState .. => 9
  | .dwellAverage .. => 10

/-- R170: ALARM and BREAK_STATE notices are dropped last. -/
def Notice.protected : Notice → Bool
  | .alarm .. | .breakState .. => true
  | _ => false

/-- PROFILE_READY, which R169 replaces. -/
def Notice.isProfileReady : Notice → Bool
  | .profileReady .. => true
  | _ => false

/-- R168: the port's subscription set holds the notice kind of this code. -/
def Port.subscribed (q : Port) (code : Nat) : Bool := q.subs.getLsbD (code - 1)

/-- The ports subscribed to ALARM notices (R128). -/
def State.alarmPorts (s : State) : PortSet :=
  ⟨s.ports.sp0.subscribed 4, s.ports.sp1.subscribed 4, s.ports.sp2.subscribed 4⟩

/-- R132: a record that is CLEARED and wants no further acknowledgement. -/
def Alarm.covered (r : Alarm) : Bool := decide (r.state = .cleared) && r.needed.subset r.acked

/-- R145: scan n has ended. -/
def State.scanEnded (s : State) (n : Nat) : Bool :=
  decide (n < s.trav.scanNumber) || (decide (n = s.trav.scanNumber) && s.trav.cur.isNone)

/-- R150: the target is reached. -/
def State.reached (s : State) : Target → Bool
  | .next => true
  | .scan n => s.scanEnded n.toNat

/-- The armed entries of one class (R149). -/
def State.armedOf (s : State) (c : ItemClass) : List Armed :=
  s.setup.armed.filter (fun e => decide (e.item.cls = c))

/-- R153: the armed AT_STANDARDIZE group is due. -/
def State.groupDue (s : State) : Bool :=
  !(s.armedOf .atStandardize).isEmpty && (s.armedOf .atStandardize).all (fun e => s.reached e.target)

/-- The half mark (R181). -/
def halfMark : Nat := 2147483648

/-- R180: a tally's value after a count. -/
def countedValue (mode : TallyMode) (value amount : Nat) : Nat :=
  if value + amount ≤ max32 then value + amount
  else match mode with
    | .wrap => value + amount - (max32 + 1)
    | .freeze => max32

/-- R181: a count crosses the half mark. -/
def crossesHalf (mode : TallyMode) (value amount : Nat) : Bool :=
  decide (value < halfMark) && decide (halfMark ≤ countedValue mode value amount)

/-- R180: a tally is frozen. -/
def Tally.frozen (mode : TallyMode) (t : Tally) : Bool := decide (mode = .freeze) && decide (t.value = max32)

/-- The set that gathers the scan in progress (R73). -/
def EdgeUnit.accumulating (e : EdgeUnit) : Option SetId :=
  if e.x.state = .accumulating then some .x else if e.y.state = .accumulating then some .y else none

/-- The set the finalizer is busy with (R78). -/
def EdgeUnit.finalizing (e : EdgeUnit) : Option SetId :=
  if e.x.state = .finalizing then some .x else if e.y.state = .finalizing then some .y else none

/-- The set a scan start claims: X when both are FREE (R74). -/
def EdgeUnit.freeSet (e : EdgeUnit) : Option SetId :=
  if e.x.state = .free then some .x else if e.y.state = .free then some .y else none

/-- One of the two sets. -/
def EdgeUnit.get (e : EdgeUnit) : SetId → AccSet
  | .x => e.x
  | .y => e.y

/-- The unit with one of its sets replaced. -/
def EdgeUnit.set (e : EdgeUnit) : SetId → AccSet → EdgeUnit
  | .x, a => { e with x := a }
  | .y, a => { e with y := a }

/-- The other set. -/
def SetId.other : SetId → SetId
  | .x => .y
  | .y => .x

end Sys2Proof.Machine
end

