-- ==== Sys2Proof/Machine/Ops.lean ====
section
/-! DEFINITION. The operations the blocks share: queueing a notice, counting a tally, raising and clearing an alarm,
issuing a head command, changing the traverse state, and starting each port's next frame. -/

namespace Sys2Proof.Machine

/-! ### The tally bank's cells -/

/-- The tally of an id. -/
def TallyBank.get (b : TallyBank) : TallyId → Tally
  | .scansComplete => b.scansComplete
  | .scansBroken => b.scansBroken
  | .scansStopped => b.scansStopped
  | .scansFaulted => b.scansFaulted
  | .breaks => b.breaks
  | .holes => b.holes
  | .edgeJumps => b.edgeJumps
  | .positionSlips => b.positionSlips
  | .stdFailures => b.stdFailures
  | .samplesRejected => b.samplesRejected
  | .samplesMissing => b.samplesMissing
  | .binSaturations => b.binSaturations
  | .noticesDropped => b.noticesDropped
  | .framesBad => b.framesBad

/-- The bank with the tally of an id replaced. -/
def TallyBank.set (b : TallyBank) (id : TallyId) (t : Tally) : TallyBank :=
  match id with
  | .scansComplete => { b with scansComplete := t }
  | .scansBroken => { b with scansBroken := t }
  | .scansStopped => { b with scansStopped := t }
  | .scansFaulted => { b with scansFaulted := t }
  | .breaks => { b with breaks := t }
  | .holes => { b with holes := t }
  | .edgeJumps => { b with edgeJumps := t }
  | .positionSlips => { b with positionSlips := t }
  | .stdFailures => { b with stdFailures := t }
  | .samplesRejected => { b with samplesRejected := t }
  | .samplesMissing => { b with samplesMissing := t }
  | .binSaturations => { b with binSaturations := t }
  | .noticesDropped => { b with noticesDropped := t }
  | .framesBad => { b with framesBad := t }

/-! ### The notice queue of one port (R168 to R171) -/

/-- A notice is being sent, so it stands at the head of the queue and is passed over by R169 and R170. -/
def Port.sendingNotice (q : Port) : Bool :=
  match q.sending with
  | some x => decide (x.source = .notice)
  | none => false

/-- The notices at the head of the queue whose sending has begun: one or none. -/
def Port.begun (q : Port) : List Notice := if q.sendingNotice then q.notices.take 1 else []

/-- The notices whose sending has not begun. -/
def Port.unbegun (q : Port) : List Notice := if q.sendingNotice then q.notices.drop 1 else q.notices

/-- R169: the notice replaces a PROFILE_READY whose sending has not begun. -/
def Port.replaces (q : Port) (n : Notice) : Bool := n.isProfileReady && q.unbegun.any Notice.isProfileReady

/-- R170: the notice overflows the queue, so that one notice is dropped. -/
def Port.overflows (q : Port) (n : Notice) : Bool := !q.replaces n && decide (16 ≤ q.notices.length)

/-- R170: a queue less the one notice dropped: the oldest that is neither ALARM nor BREAK_STATE, or else the oldest. The
list is that of the notices whose sending has not begun. DESIGN CHOICE: where these are all ALARM or BREAK_STATE and the
one in sending is not, which neither of R170's two cases names, the oldest of them is dropped (log entry 32). -/
def dropOne (l : List Notice) : List Notice :=
  if l.any (fun n => !n.protected) then l.eraseP (fun n => !n.protected) else l.drop 1

/-- The port with a notice queued: R169 when it replaces one, R170 and the marker of R171 when it overflows the queue
(log entry 32 where the one notice that R170 would drop is in sending), and otherwise joined at the tail (R168). -/
def Port.queue (q : Port) (n : Notice) : Port :=
  if q.replaces n then { q with notices := q.begun ++ q.unbegun.eraseP Notice.isProfileReady ++ [n] }
  else if 16 ≤ q.notices.length then
    { q with notices := q.begun ++ dropOne (q.unbegun ++ [n]), overrun := true,
             sending := q.sending.map (fun x => { x with dropped := true }) }
  else { q with notices := q.notices ++ [n] }

/-! ### Counting and queueing (R168, R170, R180, R181) -/

/-- The state with one port changed. -/
def State.onPort (s : State) (p : PortId) (f : Port → Port) : State :=
  { s with ports := s.ports.set p (f (s.ports.get p)) }

/-- R180, R181 step 1: a count's effect on its tally: the value, and the half-mark flag when the count crosses. -/
def bump (id : TallyId) (amount : Nat) (s : State) : State :=
  let mode := s.setup.active.tallyMode
  let t := s.tallies.get id
  let t' : Tally := ⟨countedValue mode t.value amount, t.half || crossesHalf mode t.value amount⟩
  { s with tallies := s.tallies.set id t' }

/-- R181: whether a count of this tally crosses its half mark. -/
def crosses (id : TallyId) (amount : Nat) (s : State) : Bool :=
  crossesHalf s.setup.active.tallyMode (s.tallies.get id).value amount

/-- R181 step 2: the TALLY_MARK notice of a crossing, after the count. -/
def tallyMarkOf (id : TallyId) (s : State) : Notice :=
  .tallyMark id (s.tallies.get id).value s.setup.active.tallyMode

/-- A notice queued at one port, a drop counting NOTICES_DROPPED with no mark of its own: for the TALLY_MARK of
NOTICES_DROPPED itself, whose further drop cannot cross (R181). -/
def queueLast (n : Notice) (p : PortId) (s : State) : State :=
  let s' := s.onPort p (fun q => q.queue n)
  if (s.ports.get p).overflows n then bump .noticesDropped 1 s' else s'

/-- An action at each port subscribed to a notice kind, in the order SP0, SP1, SP2 (log entry 7). -/
def atSubscribers (code : Nat) (act : PortId → State → State) (s : State) : State :=
  let one (p : PortId) (s : State) : State := if (s.ports.get p).subscribed code then act p s else s
  one .sp2 (one .sp1 (one .sp0 s))

/-- R170, R181: one drop counted, with the TALLY_MARK of NOTICES_DROPPED when that count crosses. -/
def countDrop (s : State) : State :=
  let s' := bump .noticesDropped 1 s
  if crosses .noticesDropped 1 s then atSubscribers 8 (queueLast (tallyMarkOf .noticesDropped s')) s' else s'

/-- R168, R170: a notice queued at one port whatever its subscriptions. -/
def queueAt (n : Notice) (p : PortId) (s : State) : State :=
  let s' := s.onPort p (fun q => q.queue n)
  if (s.ports.get p).overflows n then countDrop s' else s'

/-- R168: a notice queued at each port subscribed to its kind. -/
def notify (n : Notice) (s : State) : State := atSubscribers n.code (queueAt n) s

/-- R179 to R181: a count of a tally, with its TALLY_MARK when it crosses the half mark. -/
def count (id : TallyId) (amount : Nat) (s : State) : State :=
  let s' := bump id amount s
  if crosses id amount s then notify (tallyMarkOf id s') s' else s'

/-! ### The alarm list (R128, R132, R133) -/

/-- The records less those of this id that are covered (R132). -/
def removeCovered (id : Nat) (l : List Alarm) : List Alarm :=
  l.filter (fun r => !(decide (r.id = id) && r.covered))

/-- The state with the alarm records changed. -/
def State.onAlarms (s : State) (f : List Alarm → List Alarm) : State :=
  { s with alarms := { s.alarms with records := f s.alarms.records } }

/-- R128 step 1: room for one more record: the oldest CLEARED record of a full list is evicted. -/
def alarmRoom (l : List Alarm) : List Alarm :=
  if 8 ≤ l.length then l.eraseP (fun r => decide (r.state = .cleared)) else l

/-- R128: the id after an id, wrapping from 65535 to 1. DESIGN CHOICE: an id that a record in the list still carries is
not skipped (log entry 35). -/
def nextAlarmId (id : Nat) : Nat := if id = max16 then 1 else id + 1

/-- R128 steps 2 and 3: the new record. -/
def newAlarm (kind : AlarmKind) (cause : Option Cause) (scan : Nat) (pos : Option Nat) (s : State) : Alarm :=
  { id := s.alarms.nextId, kind := kind, state := if kind = .brk then .active else .cleared, cause := cause,
    scan := scan, pos := pos, rebreaks := 0, needed := s.alarmPorts, acked := PortSet.none }

/-- R128: a raise, with its ALARM notice (R133) and its removal check (R132). -/
def raiseAlarm (kind : AlarmKind) (cause : Option Cause) (scan : Nat) (pos : Option Nat) (s : State) : State :=
  let r := newAlarm kind cause scan pos s
  let s := { s with alarms := { records := alarmRoom s.alarms.records ++ [r], nextId := nextAlarmId r.id } }
  (notify (.alarm .raised r) s).onAlarms (removeCovered r.id)

/-- The ACTIVE record, if there is one (R130). -/
def State.activeAlarm (s : State) : Option Alarm := s.alarms.records.find? (fun r => decide (r.state = .active))

/-- R123: the rebreak count of the ACTIVE record, 0 when there is none. -/
def State.rebreaks (s : State) : Nat := (s.activeAlarm.map Alarm.rebreaks).getD 0

/-- The records with the ACTIVE ones changed. -/
def onActive (f : Alarm → Alarm) (l : List Alarm) : List Alarm :=
  l.map (fun r => if r.state = .active then f r else r)

/-- R126 step 2: the ACTIVE record becomes CLEARED, its ALARM notice is queued, and R132 is applied to it. -/
def clearBreakAlarm (s : State) : State :=
  match s.activeAlarm with
  | none => s
  | some r =>
    let r' := { r with state := .cleared }
    (notify (.alarm .cleared r') (s.onAlarms (onActive (fun a => { a with state := .cleared })))).onAlarms
      (removeCovered r.id)

/-- R118 step 3: the rebreak count of the ACTIVE record increments up to 255, with its ALARM notice. -/
def rebreakAlarm (s : State) : State :=
  match s.activeAlarm with
  | none => s
  | some r =>
    notify (.alarm .rebreak { r with rebreaks := min (r.rebreaks + 1) 255 })
      (s.onAlarms (onActive (fun a => { a with rebreaks := min (a.rebreaks + 1) 255 })))

/-! ### Head commands and the traverse state (R1, R7, R10) -/

/-- A motion command (R1). -/
def HeadCmd.isMotion : HeadCmd → Bool
  | .move _ | .park => true
  | _ => false

/-- A MOVE (R1). -/
def HeadCmd.isMove : HeadCmd → Bool
  | .move _ => true
  | _ => false

/-- R1, R2, R10: a head command is issued: it takes the next command number, a motion command's number is kept and
starts the move timer, any other command stops it, and a MOVE clears head-at-park. The frame leaves only while the link
is UP. -/
def issue (c : HeadCmd) (s : State) : State :=
  let number := s.link.cmdNo + 1
  { s with
    link := { s.link with cmdNo := number, lastMotion := if c.isMotion then some number else s.link.lastMotion }
    trav := { s.trav with moveTimer := if c.isMotion then some s.setup.active.moveTimeout else none
                          atPark := s.trav.atPark && !c.isMove }
    carriageTx := if s.link.up then s.carriageTx ++ [⟨number, c⟩] else s.carriageTx }

/-- R7: the TRAVERSE_STATE notice of the state as it stands. -/
def traverseNotice (s : State) : Notice :=
  .traverseState s.trav.state s.trav.intent s.trav.dwellPos s.trav.scanNumber s.trav.pos

/-- The traverse controller's state changed. -/
def State.onTrav (s : State) (f : Traverse → Traverse) : State := { s with trav := f s.trav }

/-- R7: the traverse state becomes `st`; a change queues TRAVERSE_STATE. R10: FAULT stops the move timer. -/
def changeState (st : TravState) (s : State) : State :=
  if s.trav.state = st then s
  else
    let s := s.onTrav (fun t => { t with state := st, moveTimer := if st = .fault then none else t.moveTimer })
    notify (traverseNotice s) s

/-- PARK is sent and the state becomes PARKING (R11, R16, R19, R22, R24, R25). -/
def park (s : State) : State := changeState .parking (issue .park s)

/-- The break state permits scanning (R8). -/
def State.permits (s : State) : Bool := s.mon.state.permits

/-! ### The sender of a port (R167) -/

/-- R167: the frame the sender takes next. Frames of the second, third and fourth kind wait under a master hold. -/
def Port.nextFrame (q : Port) : Option Sending :=
  match q.resetAnswer, q.holdsOut with
  | some tag, _ => some ⟨.portReset tag, .resetAnswer, false⟩
  | none, time :: _ => some ⟨.hold time, .partHold, false⟩
  | none, [] =>
    if q.masterHold.isSome then none
    else match q.refusals, (q.engine.bind fun j => j.frames.head?), q.notices with
      | r :: _, _, _ => some ⟨.response r, .refusal, false⟩
      | [], some fr, _ => some ⟨fr, .engine, false⟩
      | [], none, n :: _ => some ⟨.notice n q.overrun, .notice, false⟩
      | [], none, [] => none

/-- R167: when the sender is free and the link is UP it takes the first waiting frame. -/
def Port.startSend (q : Port) : Port :=
  if q.linkUp && q.sending.isNone then { q with sending := q.nextFrame } else q

/-- Every port's sender takes its next frame: the end of an event (log entry 6). -/
def settle (s : State) : State :=
  { s with ports := ⟨s.ports.sp0.startSend, s.ports.sp1.startSend, s.ports.sp2.startSend⟩ }

end Sys2Proof.Machine
end

