-- ==== Sys2Proof/Machine/Setup.lean ====
section
/-! DEFINITION. The setup store (chapter 8): the values of items, the checks of R138 and R139, staging, committing,
the armed set and the apply events. The line enables' effect on the break monitor is in Break.lean. -/

namespace Sys2Proof

/-- The code of a kind (R187). -/
def Kind.code : Kind → Nat
  | .bw => 0
  | .dw => 1
  | .mo => 2
  | .ca => 3

/-- The kind of a code (R187). -/
def Kind.ofCode : Nat → Kind
  | 0 => .bw
  | 1 => .dw
  | 2 => .mo
  | _ => .ca

end Sys2Proof

namespace Sys2Proof.Machine

/-! ### Values of items -/

/-- The code of a position mode (R187). -/
def PositionMode.code : PositionMode → Nat
  | .encoder => 0
  | .reckoned => 1

/-- The position mode of a code (R187). -/
def PositionMode.ofCode (c : Nat) : PositionMode := if c = 0 then .encoder else .reckoned

/-- The code of a tally mode (R187). -/
def TallyMode.code : TallyMode → Nat
  | .wrap => 0
  | .freeze => 1

/-- The tally mode of a code (R187). -/
def TallyMode.ofCode (c : Nat) : TallyMode := if c = 0 then .wrap else .freeze

/-- The value of an item; an unloaded curve has no points. -/
def Setup.get (a : Setup) : Item → SetupValue
  | .turnF => .scalar a.turnF
  | .turnD => .scalar a.turnD
  | .parkPos => .scalar a.parkPos
  | .indexF => .scalar a.indexF
  | .indexD => .scalar a.indexD
  | .binOrigin => .scalar a.binOrigin
  | .binWidth => .scalar a.binWidth
  | .binCount => .scalar a.binCount
  | .positionMode => .code a.positionMode.code
  | .slipTol => .scalar a.slipTol
  | .bwCurve => .curve (a.bwCurve.getD [])
  | .waterCurve => .curve (a.waterCurve.getD [])
  | .calRatio => .scalar a.calRatio
  | .calGain => .scalar a.calGain
  | .zoneCount => .scalar a.zoneCount
  | .zoneKind => .code a.zoneKind.code
  | .shrinkCurve => .curve a.shrinkCurve
  | .stdInterval => .scalar a.stdInterval
  | .stdSamples => .scalar a.stdSamples
  | .driftLimit => .scalar a.driftLimit
  | .airThreshold => .scalar a.airThreshold
  | .edgeRun => .scalar a.edgeRun
  | .edgeMargin => .scalar a.edgeMargin
  | .edgeTol => .scalar a.edgeTol
  | .edgeAccept => .scalar a.edgeAccept
  | .breakSpan => .scalar a.breakSpan
  | .holeMin => .scalar a.holeMin
  | .recoveryScans => .scalar a.recoveryScans
  | .recoveryTol => .scalar a.recoveryTol
  | .dwellBreakSamples => .scalar a.dwellBreakSamples
  | .minSamples => .scalar a.minSamples
  | .filterBw => .scalar a.filterBw
  | .filterDw => .scalar a.filterDw
  | .filterMo => .scalar a.filterMo
  | .filterCa => .scalar a.filterCa
  | .holdLimit => .scalar a.holdLimit
  | .dwellPeriod => .scalar a.dwellPeriod
  | .headTimeout => .scalar a.headTimeout
  | .moveTimeout => .scalar a.moveTimeout
  | .breakLineEnable => .code a.breakLineEnable.toNat
  | .tailLineEnable => .code a.tailLineEnable.toNat
  | .lineDebounce => .scalar a.lineDebounce
  | .tallyMode => .code a.tallyMode.code
  | .holdThreshold => .scalar a.holdThreshold
  | .holdTime => .scalar a.holdTime

/-- The setup with the value of an item replaced; a value of another kind, which R138 never gives, leaves it as it
is. -/
def Setup.put (a : Setup) (i : Item) (v : SetupValue) : Setup :=
  match i, v with
  | .turnF, .scalar v => { a with turnF := v }
  | .turnD, .scalar v => { a with turnD := v }
  | .parkPos, .scalar v => { a with parkPos := v }
  | .indexF, .scalar v => { a with indexF := v }
  | .indexD, .scalar v => { a with indexD := v }
  | .binOrigin, .scalar v => { a with binOrigin := v }
  | .binWidth, .scalar v => { a with binWidth := v }
  | .binCount, .scalar v => { a with binCount := v }
  | .positionMode, .code c => { a with positionMode := PositionMode.ofCode c }
  | .slipTol, .scalar v => { a with slipTol := v }
  | .bwCurve, .curve pts => { a with bwCurve := some pts }
  | .waterCurve, .curve pts => { a with waterCurve := some pts }
  | .calRatio, .scalar v => { a with calRatio := v }
  | .calGain, .scalar v => { a with calGain := v }
  | .zoneCount, .scalar v => { a with zoneCount := v }
  | .zoneKind, .code c => { a with zoneKind := Kind.ofCode c }
  | .shrinkCurve, .curve pts => { a with shrinkCurve := pts }
  | .stdInterval, .scalar v => { a with stdInterval := v }
  | .stdSamples, .scalar v => { a with stdSamples := v }
  | .driftLimit, .scalar v => { a with driftLimit := v }
  | .airThreshold, .scalar v => { a with airThreshold := v }
  | .edgeRun, .scalar v => { a with edgeRun := v }
  | .edgeMargin, .scalar v => { a with edgeMargin := v }
  | .edgeTol, .scalar v => { a with edgeTol := v }
  | .edgeAccept, .scalar v => { a with edgeAccept := v }
  | .breakSpan, .scalar v => { a with breakSpan := v }
  | .holeMin, .scalar v => { a with holeMin := v }
  | .recoveryScans, .scalar v => { a with recoveryScans := v }
  | .recoveryTol, .scalar v => { a with recoveryTol := v }
  | .dwellBreakSamples, .scalar v => { a with dwellBreakSamples := v }
  | .minSamples, .scalar v => { a with minSamples := v }
  | .filterBw, .scalar v => { a with filterBw := v }
  | .filterDw, .scalar v => { a with filterDw := v }
  | .filterMo, .scalar v => { a with filterMo := v }
  | .filterCa, .scalar v => { a with filterCa := v }
  | .holdLimit, .scalar v => { a with holdLimit := v }
  | .dwellPeriod, .scalar v => { a with dwellPeriod := v }
  | .headTimeout, .scalar v => { a with headTimeout := v }
  | .moveTimeout, .scalar v => { a with moveTimeout := v }
  | .breakLineEnable, .code c => { a with breakLineEnable := decide (c ≠ 0) }
  | .tailLineEnable, .code c => { a with tailLineEnable := decide (c ≠ 0) }
  | .lineDebounce, .scalar v => { a with lineDebounce := v }
  | .tallyMode, .code c => { a with tallyMode := TallyMode.ofCode c }
  | .holdThreshold, .scalar v => { a with holdThreshold := v }
  | .holdTime, .scalar v => { a with holdTime := v }
  | _, _ => a

/-- A setup overlaid by some values, one after the other (R139, R144). -/
def Setup.overlay (a : Setup) (l : List (Item × SetupValue)) : Setup :=
  l.foldl (fun a e => a.put e.1 e.2) a

/-- An entry's item and value. -/
def Staged.pair (e : Staged) : Item × SetupValue := (e.item, e.value)

/-- An entry's item and value. -/
def Armed.pair (e : Armed) : Item × SetupValue := (e.item, e.value)

/-! ### The checks of a value (R138) -/

/-- What R138 makes of an offered value. -/
inductive Checked where
  | staged (v : SetupValue) (clamped : Bool)
  | malformed
  | badValue
  deriving DecidableEq, Repr

/-- No step of a curve goes against its direction (R43). -/
def steps (rising : Bool) (points : List Nat) : Bool :=
  (points.zip (points.drop 1)).all (fun e => if rising then decide (e.1 ≤ e.2) else decide (e.2 ≤ e.1))

/-- R43: the points are in range and in the required shape; the rising curve, SHRINK_CURVE, also has its ends fixed. -/
def curveShape (top : Nat) (rising : Bool) (points : List Nat) : Bool :=
  points.all (fun v => decide (v ≤ top)) && steps rising points &&
    (!rising || (decide (points.head? = some 0) && decide (points.getLast? = some top)))

/-- R138: the check of a value offered for an item. A value of another form than the item's is one that does not hold
the fields the request calls for (R165). -/
def checkValue (i : Item) (o : Offered) : Checked :=
  match i.shape, o with
  | .scalar lo hi, .scalar v =>
    if v.toNat < lo then .staged (.scalar lo) true
    else if hi < v.toNat then .staged (.scalar hi) true
    else .staged (.scalar v.toNat) false
  | .enumerated n, .code c => if c.toNat < n then .staged (.code c.toNat) false else .badValue
  | .curve n top rising, .curve points =>
    if points.length ≠ n then .malformed
    else if curveShape top rising (points.map BitVec.toNat) then .staged (.curve (points.map BitVec.toNat)) false
    else .badValue
  | _, _ => .malformed

/-! ### The cross-item constraints (R139) -/

/-- R139: the items a constraint names, in its order. -/
def constraintItems : Nat → List Item
  | 1 => [.parkPos, .turnF]
  | 2 => [.turnF, .indexF]
  | 3 => [.indexF, .binOrigin]
  | 4 => [.binOrigin, .binWidth, .binCount, .indexD]
  | 5 => [.indexD, .turnD]
  | 6 => [.zoneCount, .binCount]
  | _ => []

/-- R139: constraint 1 to 6 holds of a setup. -/
def constraintHolds (a : Setup) : Nat → Bool
  | 1 => decide (a.parkPos < a.turnF)
  | 2 => decide (a.turnF ≤ a.indexF)
  | 3 => decide (a.indexF < a.binOrigin)
  | 4 => decide (a.binOrigin + a.binCount * a.binWidth ≤ a.indexD)
  | 5 => decide (a.indexD ≤ a.turnD)
  | 6 => decide (a.zoneCount ≤ a.binCount)
  | _ => true

/-- R139, R144: the first failing constraint. -/
def firstFailing (a : Setup) : Option Nat := [1, 2, 3, 4, 5, 6].find? (fun n => !constraintHolds a n)

/-- R144: the first item the constraint names that the list holds. -/
def offendingItem (n : Nat) (l : List Staged) : Item :=
  (((constraintItems n).find? fun i => l.any fun e => decide (e.item = i)).getD .parkPos)

/-! ### Staging (R140 to R142) -/

/-- R141: a value staged in a list: the item's entry replaced at its place, or a new entry at the end. -/
def stageIn (l : List Staged) (i : Item) (v : SetupValue) : List Staged :=
  if l.any (fun e => decide (e.item = i)) then l.map (fun e => if e.item = i then ⟨i, v⟩ else e)
  else l ++ [⟨i, v⟩]

/-- R141: the list has no entry for the item and no room for one. -/
def stagingFull (l : List Staged) (i : Item) : Bool :=
  !l.any (fun e => decide (e.item = i)) && decide (32 ≤ l.length)

/-- The state with the setup store changed. -/
def State.onSetup (s : State) (f : SetupStore → SetupStore) : State := { s with setup := f s.setup }

/-- The state with one port's staging list replaced. -/
def State.setStaging (s : State) (p : PortId) (l : List Staged) : State :=
  s.onSetup (fun t => { t with staging := t.staging.set p l })

/-! ### Apply events (R155) -/

/-- R155: the setup generation counts from 1 to 65535 and wraps to 1. -/
def nextGeneration (g : Nat) : Nat := if g = max16 then 1 else g + 1

/-- R155: an applied item of a class that moves the generation, whose value differs from the active one. -/
def changes (a : Setup) (e : Item × SetupValue) : Bool :=
  decide (e.1.cls ≠ .immediate) && decide (a.get e.1 ≠ e.2)

/-- R155: an apply event with the values it applies; it counts only when there is one. -/
def applyValues (l : List (Item × SetupValue)) (point : ApplyPoint) (s : State) : State :=
  if l.isEmpty then s
  else
    let g := if l.any (changes s.setup.active) then nextGeneration s.setup.generation else s.setup.generation
    let s := s.onSetup (fun t => { t with active := t.active.overlay l, generation := g })
    notify (.setupApplied g l.length point s.trav.scanNumber) s

/-- R151, R152, R154: the armed entries of a selection apply and leave the armed set. -/
def applyArmed (sel : Armed → Bool) (point : ApplyPoint) (s : State) : State :=
  applyValues ((s.setup.armed.filter sel).map Armed.pair) point
    (s.onSetup (fun t => { t with armed := t.armed.filter (fun e => !sel e) }))

/-- R153: the test made after a commit or a scan-end application, `was` being whether the group was due before. -/
def testGroup (was : Bool) (s : State) : State :=
  if !was && s.groupDue then
    if s.trav.state = .standardizing then s.onSetup (fun t => { t with groupMark := true })
    else s.onTrav (fun t => { t with stdDue := true })
  else s

/-- R151: step 1 of a scan start. -/
def applyAtScanStart (s : State) : State :=
  applyArmed (fun e => decide (e.item.cls = .atScanEnd) && s.reached e.target) .scanStart s

/-- R152: the entries a scan end applies. -/
def scanEndSelects (s : State) (e : Armed) : Bool := decide (e.item.cls ≠ .atStandardize) && s.reached e.target

/-- R154: step 2 of a standardization start. -/
def applyGroup (s : State) : State :=
  if s.groupDue then applyArmed (fun e => decide (e.item.cls = .atStandardize)) .standardize s else s

/-! ### Committing (R144 to R148) -/

/-- R149: an armed entry put at its place by ascending item id. -/
def insertArmed (e : Armed) : List Armed → List Armed
  | [] => [e]
  | a :: rest => if e.item.id < a.item.id then e :: a :: rest else a :: insertArmed e rest

/-- R146, R147: whether a staged entry applies at once. -/
def appliesAtOnce (target : Target) (e : Staged) : Bool :=
  decide (target = .next) && decide (e.item.cls = .immediate)

/-- R144: the prospective setup: the active setup overlaid by the armed set and then by this staging list. -/
def prospective (t : SetupStore) (l : List Staged) : Setup :=
  (t.active.overlay (t.armed.map Armed.pair)).overlay (l.map Staged.pair)

/-- R144 case 3: the target scan has ended. -/
def tooLate (s : State) : Target → Bool
  | .next => false
  | .scan n => s.scanEnded n.toNat

/-- R146, R147: the armed set after a commit that is taken: the entries of the committed items are removed, and those
that do not apply at once join. -/
def armAll (p : PortId) (target : Target) (l : List Staged) (armed : List Armed) : List Armed :=
  ((l.filter (fun e => !appliesAtOnce target e)).map (fun e => (⟨e.item, e.value, target, p⟩ : Armed))).foldl
    (fun acc e => insertArmed e acc)
    (armed.filter (fun a => !l.any (fun e => decide (e.item = a.item))))

/-- R146 to R148: the items, ascending, on which a commit of this list by port `p` supersedes port `q`. -/
def supersededItems (armed : List Armed) (l : List Staged) (p q : PortId) : List Item :=
  if p = q then []
  else Item.all.filter fun i =>
    (l.any fun e => decide (e.item = i)) && (armed.any fun a => decide (a.item = i) && decide (a.port = q))

/-- R148: the SETUP_SUPERSEDED notice at one port, when it is superseded. -/
def notifySuperseded (armed : List Armed) (l : List Staged) (p : PortId) (target : Target) (q : PortId)
    (s : State) : State :=
  let items := supersededItems armed l p q
  if items.isEmpty then s
  else
    let atOnce := items.map fun i => decide (target = .next) && decide (i.cls = .immediate)
    queueAt (.setupSuperseded items p target atOnce) q s

/-- R144 case 4, R146 to R148, R153: a commit that is taken, less the effect of a line enable on the break monitor. -/
def commitTaken (p : PortId) (target : Target) (s : State) : State :=
  let l := s.setup.staging.get p
  let armed := s.setup.armed
  let was := s.groupDue
  let s := (s.setStaging p []).onSetup (fun t => { t with armed := armAll p target l armed })
  let s := applyValues ((l.filter (appliesAtOnce target)).map Staged.pair) .commit s
  let s := notifySuperseded armed l p target .sp0 s
  let s := notifySuperseded armed l p target .sp1 s
  let s := notifySuperseded armed l p target .sp2 s
  if l.any (fun e => decide (e.item.cls = .atStandardize)) then testGroup was s else s

end Sys2Proof.Machine
end

