-- ==== Sys2Proof/Machine/Break.lean ====
section
/-! DEFINITION. The break monitor (chapter 7) up to the point where it tells the traverse controller: declarations,
rebreaks, threading, recovery, the report of a scan end, and the debounce of the machine lines. -/

namespace Sys2Proof.Machine

/-- What the break monitor tells the traverse controller (R22). -/
inductive TravEvent where
  | quiet | broke | recovered
  deriving DecidableEq, Repr

/-- The state with the break monitor changed. -/
def State.onMon (s : State) (f : BreakMonitor → BreakMonitor) : State := { s with mon := f s.mon }

/-- R123: the BREAK_STATE notice of a change, with the monitor as it stands after it. -/
def breakNotice (prev : BreakState) (cause : Cause) (s : State) : Notice :=
  .breakState s.mon.state prev cause s.trav.scanNumber s.mon.output s.mon.refWidth s.rebreaks

/-- The width between the mapping edges, none when they are invalid (R117 step 1). -/
def State.mappingWidth (s : State) : Option Nat := s.edge.mapping.map (fun e => e.back - e.front)

/-- R117 steps 2 to 4: the mapping edges are dropped, the ring notes the break, and the break state becomes BREAK. -/
def breakEffects (s : State) : State :=
  { s with
    edge := { s.edge with mapping := none, jumps := 0 }
    ring := { s.ring with reseedPending := true, breakScan := s.trav.scanNumber }
    mon := { s.mon with state := .brk, recovery := 0, stdInBreak := false } }

/-- R117 steps 1 to 8: a declaration from UNPROVEN or SHEET_ON. -/
def declareBreak (cause : Cause) (scan : Nat) (pos : Option Nat) (s : State) : State :=
  let prev := s.mon.state
  let s := breakEffects (s.onMon (fun m => { m with refWidth := s.mappingWidth }))
  let s := raiseAlarm .brk (some cause) scan pos s
  let s := count .breaks 1 (s.onMon (fun m => { m with output := true }))
  notify (breakNotice prev cause s) s

/-- R118 steps 1 to 4: a declaration from RECOVERY. -/
def redeclareBreak (cause : Cause) (s : State) : State :=
  let s := breakEffects (s.onMon (fun m => { m with refWidth := s.mappingWidth.or m.refWidth }))
  let s := count .breaks 1 (rebreakAlarm s)
  notify (breakNotice .recovery cause s) s

/-- R117, R118: a break cause taken, less its step 9: none in BREAK and THREADING. -/
def breakCause (cause : Cause) (scan : Nat) (pos : Option Nat) (s : State) : State :=
  match s.mon.state with
  | .unproven | .sheetOn => declareBreak cause scan pos s
  | .recovery => redeclareBreak cause s
  | .brk | .threading => s

/-- R122 steps 1 to 3: RECOVERY is entered. -/
def enterRecovery (cause : Cause) (s : State) : State :=
  let prev := s.mon.state
  let due := s.trav.stdDue || !s.mon.stdInBreak
  let s := (s.onMon (fun m => { m with state := .recovery, recovery := 0, stdInBreak := false })).onTrav
    (fun t => { t with stdDue := due })
  notify (breakNotice prev cause s) s

/-- R119: BREAK is left for THREADING. -/
def enterThreading (s : State) : State :=
  let s := s.onMon (fun m => { m with state := .threading })
  notify (breakNotice .brk .tail s) s

/-! ### The report of a scan end (R124 to R126) -/

/-- R125: a good recovery scan. -/
def goodRecovery (s : State) (width : Nat) : Bool :=
  match s.mon.refWidth with
  | none => true
  | some w => decide (w ≤ width + s.setup.active.recoveryTol)

/-- R126: the sheet is proven. -/
def provenSheet (s : State) : State :=
  let s := s.onMon (fun m => { m with state := .sheetOn, recovery := 0, refWidth := none })
  let s := (clearBreakAlarm s).onMon (fun m => { m with output := false })
  notify (breakNotice .recovery .scans s) s

/-- R124: the monitor's part in a COMPLETE scan end, with the scan's edge width. -/
def reportComplete (width : Nat) (s : State) : State :=
  match s.mon.state with
  | .unproven =>
    let s := s.onMon (fun m => { m with state := .sheetOn })
    notify (breakNotice .unproven .scans s) s
  | .recovery =>
    if goodRecovery s width then
      let s := s.onMon (fun m => { m with recovery := m.recovery + 1 })
      if s.setup.active.recoveryScans ≤ s.mon.recovery then provenSheet s else s
    else s.onMon (fun m => { m with recovery := 0 })
  | .sheetOn | .brk | .threading => s

/-! ### The machine lines (R114 to R116, R119) -/

/-- One line of the monitor. -/
def BreakMonitor.line (m : BreakMonitor) : Line → LineState
  | .brk => m.brk
  | .tail => m.tail

/-- The monitor with one line replaced. -/
def BreakMonitor.setLine (m : BreakMonitor) : Line → LineState → BreakMonitor
  | .brk, v => { m with brk := v }
  | .tail, v => { m with tail := v }

/-- The enable of a line in a setup (R114). -/
def Setup.enabled (a : Setup) : Line → Bool
  | .brk => a.breakLineEnable
  | .tail => a.tailLineEnable

/-- The state with one line changed. -/
def State.onLine (s : State) (l : Line) (f : LineState → LineState) : State :=
  s.onMon (fun m => m.setLine l (f (m.line l)))

/-- R114: the line is ASSERTED; a disabled line counts as DEASSERTED. -/
def State.asserted (s : State) (l : Line) : Bool := s.setup.active.enabled l && (s.mon.line l).debounced

/-- R116: what an edge of the line tells the traverse controller, the debounced state having taken the level. -/
def edgeEvent (l : Line) (s : State) : TravEvent :=
  match l, (s.mon.line l).debounced with
  | .brk, true => if s.permits then .broke else .quiet
  | .brk, false => if s.mon.state = .threading ∧ s.asserted .tail = false then .recovered else .quiet
  | .tail, true => .quiet
  | .tail, false => if s.mon.state = .threading ∧ s.asserted .brk = false then .recovered else .quiet

/-- R116: the effect of an edge on the monitor, the debounced state having taken the level. -/
def edgeEffect (l : Line) (s : State) : State :=
  match edgeEvent l s with
  | .broke => breakCause .line s.trav.scanNumber none s
  | .recovered => enterRecovery .tail s
  | .quiet =>
    if l = .tail ∧ (s.mon.line .tail).debounced = true ∧ s.mon.state = .brk then enterThreading s else s

/-- The debounced state takes the line's level and the timer stops (R115). -/
def takeLevel (l : Line) (s : State) : State :=
  s.onLine l (fun v => { v with debounced := v.level, timer := none })

/-- R115: the level differs from the debounced state and LINE_DEBOUNCE is 0, so that this is itself the edge. -/
def edgeAtOnce (l : Line) (s : State) : Bool :=
  decide ((s.mon.line l).level ≠ (s.mon.line l).debounced) && decide (s.setup.active.lineDebounce = 0)

/-- R115: the timer of a line whose level is compared with its debounced state, where that is not itself an edge: it
starts afresh when they differ and stops when they are equal. -/
def compareLevel (l : Line) (s : State) : State :=
  let d := s.setup.active.lineDebounce
  s.onLine l (fun v => { v with timer := if v.level ≠ v.debounced then some d else none })

/-- R114: the lines' part in an apply that changed an enable from what it was in `old`: a disabled line is DEASSERTED
with its timer stopped, a line just enabled is DEASSERTED. -/
def resetLine (l : Line) (old : Setup) (s : State) : State :=
  if s.setup.active.enabled l = old.enabled l then s
  else s.onLine l (fun v => { v with debounced := false, timer := none })

/-- R114: the line has just been enabled. -/
def justEnabled (l : Line) (old : Setup) (s : State) : Bool := s.setup.active.enabled l && !old.enabled l

/-- R114 inside a scan end, where the traverse controller is already ending a scan and takes no action on a break
declared (log entry 12): the effect of an enable on the monitor. -/
def enableInScanEnd (l : Line) (old : Setup) (s : State) : State :=
  let was := justEnabled l old s
  let s := resetLine l old s
  if was then if edgeAtOnce l s then edgeEffect l (takeLevel l s) else compareLevel l s else s

end Sys2Proof.Machine
end

