-- ==== Sys2Proof/Machine/Arith.lean ====
section
/-! DEFINITION. The roundings of chapter 0, the curve lookup of R44 and the integer square root of R87. Every product
and quotient is formed exactly before its rounding (R46). -/

namespace Sys2Proof.Machine

/-- Nearest, halves away from zero, of a quotient that is not negative (chapter 0, Rounding). -/
def nearestNat (a b : Nat) : Nat := (2 * a + b) / (2 * b)

/-- Nearest, halves away from zero (chapter 0, Rounding). -/
def nearestInt (a : Int) (b : Nat) : Int :=
  if 0 ≤ a then (nearestNat a.natAbs b : Int) else -(nearestNat a.natAbs b : Int)

/-- Truncation toward zero, which R55 alone uses. -/
def truncate (a : Int) (b : Nat) : Int :=
  if 0 ≤ a then ((a.natAbs / b : Nat) : Int) else -((a.natAbs / b : Nat) : Int)

/-- The distance of two positions. -/
def absDiff (a b : Nat) : Nat := if a ≤ b then b - a else a - b

/-- A value brought into lo..hi; lo wins when the bounds cross. -/
def clampNat (lo hi v : Nat) : Nat := if v < lo then lo else if hi < v then hi else v

/-- R44: the lookup of a curve whose points stand at inputs 2048·i. -/
def lookup (points : List Nat) (x : Nat) : Nat :=
  let last := points.length - 1
  let i := x / 2048
  let f := x - 2048 * i
  if last ≤ i then points.getD last 0
  else
    let lo : Int := points.getD i 0
    let hi : Int := points.getD (i + 1) 0
    (lo + nearestInt ((hi - lo) * f) 2048).toNat

/-- The bits of the integer square root from bit `k` down, `r` being the bits found so far. -/
def sqrtBits (n : Nat) : Nat → Nat → Nat
  | 0, r => if (r + 1) * (r + 1) ≤ n then r + 1 else r
  | k + 1, r => if (r + 2 ^ (k + 1)) * (r + 2 ^ (k + 1)) ≤ n then sqrtBits n k (r + 2 ^ (k + 1)) else sqrtBits n k r

/-- floor(√n) (R87). -/
def floorSqrt (n : Nat) : Nat := sqrtBits n (n.log2 / 2 + 1) 0

end Sys2Proof.Machine
end

