-- ==== Sys2Proof/Machine/Operands.lean ====
section
/-! DEFINITION. How the fields of the head's frames are read (R188, 11.5). -/

namespace Sys2Proof.Machine

/-- The three count fields of a SAMPLE are read as their low 20 bits (R188). -/
def countField (v : BitVec 24) : Nat := v.toNat % 1048576

/-- shutter_open, bit 0 of the flags (11.5). -/
def shutterOpen (f : SampleFrame) : Bool := f.flags.getLsbD 0

/-- source_ok, bit 1 of the flags. -/
def sourceOk (f : SampleFrame) : Bool := f.flags.getLsbD 1

/-- caliper_contact, bit 2 of the flags. -/
def caliperContact (f : SampleFrame) : Bool := f.flags.getLsbD 2

/-- index_F, bit 3 of the flags. -/
def indexFFlag (f : SampleFrame) : Bool := f.flags.getLsbD 3

/-- index_D, bit 4 of the flags. -/
def indexDFlag (f : SampleFrame) : Bool := f.flags.getLsbD 4

/-- cal_range, bit 5 of the flags: 0 FINE, 1 COARSE. -/
def calRange (f : SampleFrame) : CalRange := if f.flags.getLsbD 5 then .coarse else .fine

/-- cal_raw, two's complement (11.5). -/
def calRaw (f : SampleFrame) : Int := f.calRaw.toInt

/-- A position field in ENCODER mode: unsigned, a value above 32767 taken as 32767 (R188). -/
def encoderPos (v : BitVec 16) : Nat := min v.toNat maxPos

/-- The pos field in RECKONED mode: its low 7 bits as a signed step of −64..63 tu (R188). -/
def reckonedStep (v : BitVec 16) : Int := (v.extractLsb' 0 7).toInt

/-- A position moved by a step and clamped to 0..32767 (R5). -/
def stepPos (pos : Nat) (step : Int) : Nat := min ((pos : Int) + step).toNat maxPos

/-- present, bit 0 of a HEAD_STATUS (11.5). -/
def presentFlag (flags : BitVec 8) : Bool := flags.getLsbD 0

/-- fault, bit 1 of a HEAD_STATUS (11.5). -/
def faultFlag (flags : BitVec 8) : Bool := flags.getLsbD 1

end Sys2Proof.Machine
end

