-- ==== Sys2Proof/Machine/Convert.lean ====
section
/-! DEFINITION. The sample converter (chapter 3): it holds no state. -/

namespace Sys2Proof.Machine

/-- A converted sample (R42). -/
structure Converted where
  pos   : Nat
  t     : Nat
  bw    : Nat
  /-- the water part: w and d -/
  water : Option (Nat × Nat)
  cal   : Option Nat
  deriving DecidableEq, Repr

/-- R49: the transmission ratio. -/
def transmission (r : StdRecord) (bwCount : Nat) : Nat :=
  min (bwCount - r.cd) (r.c0 - r.cd) * 65536 / (r.c0 - r.cd)

/-- R51, R52: the normalized infrared ratio s. -/
def normalizedRatio (r : StdRecord) (irAbs irRef : Nat) : Nat :=
  min (irAbs * 65536 / irRef * 32768 / r.q0) 65536

/-- R53: the water weight and the dry weight. -/
def waterParts (r : StdRecord) (curve : List Nat) (irAbs irRef bw : Nat) : Nat × Nat :=
  let w := min (lookup curve (normalizedRatio r irAbs irRef)) bw
  (w, bw - w)

/-- R48, R51 to R53: the water part, when water is valid. -/
def waterPart (r : StdRecord) (curve : Option (List Nat)) (irAbs irRef bw : Nat) : Option (Nat × Nat) :=
  match curve with
  | some c => if 1 ≤ irRef ∧ 1 ≤ r.q0 then some (waterParts r c irAbs irRef bw) else none
  | none => none

/-- R54, R55: the FINE-scale reading. -/
def fineReading (r : StdRecord) (ratio : Nat) (range : CalRange) (raw : Int) : Int :=
  match range with
  | .fine => raw - r.zf
  | .coarse => truncate ((raw - r.zc) * ratio) 256

/-- R56: the caliper of a FINE-scale reading. -/
def caliperOf (gain : Nat) (v : Int) : Nat := if v < 0 then 0 else min (nearestNat (v.toNat * gain) 4096) 65535

/-- R48, R54 to R56: the caliper part, when caliper is valid. -/
def caliperPart (r : StdRecord) (a : Setup) (f : SampleFrame) : Option Nat :=
  if caliperContact f then some (caliperOf a.calGain (fineReading r a.calRatio (calRange f) (calRaw f))) else none

/-- R41, R42, R47: the conversion of a sample at a position; none when the sample is rejected. -/
def convert (current : Option StdRecord) (a : Setup) (f : SampleFrame) (pos : Nat) : Option Converted :=
  match current, a.bwCurve with
  | some r, some curve =>
    if sourceOk f && shutterOpen f then
      let t := transmission r (countField f.bwCount)
      let bw := lookup curve t
      some { pos := pos, t := t, bw := bw,
             water := waterPart r a.waterCurve (countField f.irAbs) (countField f.irRef) bw,
             cal := caliperPart r a f }
    else none
  | _, _ => none

end Sys2Proof.Machine
end

