-- ==== Sys2Proof/Machine/Edges.lean ====
section
/-! DEFINITION. The edge and bin unit (chapter 4): the stages of R59 as functions of the scan tracker, the bin grid, the
mapping-edge update and the life of the accumulator sets. -/

namespace Sys2Proof.Machine

/-! ### Stages 1 to 4: class, leading edge, air run, trailing edge (R59 to R65) -/

/-- R60: the class of a transmission ratio, true for AIR. -/
def isAir (threshold t : Nat) : Bool := decide (threshold ≤ t)

/-- R61: stage 2 for a SHEET sample while the leading edge is absent. -/
def Tracker.leadSheet (k : Tracker) (edgeRun pos : Nat) : Tracker :=
  let first := if k.sheetRun = 0 then pos else k.sheetFirst.getD pos
  if edgeRun ≤ k.sheetRun + 1 then { k with sheetRun := 0, sheetFirst := none, leading := some first }
  else { k with sheetRun := k.sheetRun + 1, sheetFirst := some first }

/-- R61: stage 2. -/
def Tracker.lead (k : Tracker) (edgeRun pos : Nat) (air : Bool) : Tracker :=
  if k.leading.isSome then k
  else if air then { k with sheetRun := 0, sheetFirst := none }
  else k.leadSheet edgeRun pos

/-- R63: the expected-span test. -/
def inExpectedSpan (mapping : Option Edges) (margin pos : Nat) : Bool :=
  match mapping with
  | none => false
  | some e => decide (e.front + margin ≤ pos) && decide (pos + margin ≤ e.back)

/-- R63: an air run after one more AIR sample; the first sample starts it. -/
def airSample (run : Option AirRun) (mapping : Option Edges) (snap : Snapshot) (pos : Nat) : AirRun :=
  let test := inExpectedSpan mapping snap.edgeMargin pos
  match run with
  | none => { first := pos, count := 1, inSpan := test, reach := false, sent := false }
  | some a =>
    { a with count := a.count + 1, inSpan := a.inSpan && test,
             reach := a.reach || decide (snap.breakSpan ≤ absDiff pos a.first) }

/-- R64: this AIR sample set the reach mark of a run still in span, so AIR_RUN is sent. -/
def sendsAirRun (before : Option AirRun) (after : AirRun) : Bool :=
  after.reach && after.inSpan && !((before.map AirRun.reach).getD false)

/-- R63, R64: stage 3 for an AIR sample, once the leading edge has been found. -/
def Tracker.airStep (k : Tracker) (after : AirRun) (sent : Bool) : Tracker :=
  { k with air := some { after with sent := after.sent || sent } }

/-- R65: a run ended by a SHEET sample is a hole. -/
def AirRun.isHole (a : AirRun) (holeMin : Nat) : Bool := decide (holeMin ≤ a.count) && !a.reach

/-- R62, R63: stages 3 and 4 for a SHEET sample: it ends an air run and, at or after the leading edge, moves the
trailing edge. -/
def Tracker.sheet (k : Tracker) (pos : Nat) : Tracker :=
  if k.leading.isSome then { k with air := none, trailing := some pos } else k

/-- R62: the scan's edges, named by the sides of the frame. -/
def Tracker.scanEdges (k : Tracker) : Option ScanEdges :=
  match k.leading, k.trailing with
  | some a, some b => some ⟨min a b, max a b, max a b - min a b⟩
  | some a, none => some ⟨a, a, 0⟩
  | none, _ => none

/-! ### Stage 5: bins (R69 to R72) -/

/-- R69: the bin of a position; none off the grid. -/
def binOf (snap : Snapshot) (pos : Nat) : Option Nat :=
  if snap.binOrigin ≤ pos ∧ pos < snap.binOrigin + snap.binCount * snap.binWidth then
    some ((pos - snap.binOrigin) / snap.binWidth)
  else none

/-- R70: the fill pointer after a sample in bin j; none when the sample is rejected as backtrack. -/
def fillStep (dir : Dir) (fill : Option Nat) (j : Nat) : Option Nat :=
  match fill, dir with
  | none, _ => some j
  | some p, .fwd => if p ≤ j + 1 then some (max p j) else none
  | some p, .rev => if j ≤ p + 1 then some (min p j) else none

/-- The count at which a quantity of a bin is saturated (R72). -/
def binTop : Nat := 4095

/-- R71, R72: an accepted sample added to its bin. -/
def Bin.add (b : Bin) (c : Converted) : Bin :=
  let b := if b.nBw < binTop then { b with nBw := b.nBw + 1, sBw := b.sBw + c.bw } else b
  let b := match c.water with
    | some (w, d) => if b.nMo < binTop then { b with nMo := b.nMo + 1, sW := b.sW + w, sD := b.sD + d } else b
    | none => b
  match c.cal with
  | some v => if b.nCa < binTop then { b with nCa := b.nCa + 1, sC := b.sC + v } else b
  | none => b

/-- R72: how many quantities an accepted sample finds saturated. -/
def Bin.saturations (b : Bin) (c : Converted) : Nat :=
  (if b.nBw < binTop then 0 else 1) + (if c.water.isSome ∧ ¬ b.nMo < binTop then 1 else 0)
    + (if c.cal.isSome ∧ ¬ b.nCa < binTop then 1 else 0)

/-- R71, R73: the count of samples accepted after one more; past its top a free value. -/
def acceptedAfter (v : BitVec 32) (free : Nat) : BitVec 32 :=
  if v = BitVec.allOnes 32 then Config.samplesAcceptedPastTop free else v + 1

/-- The state with the edge and bin unit changed. -/
def State.onEdge (s : State) (f : EdgeUnit → EdgeUnit) : State := { s with edge := f s.edge }

/-- The state with one accumulator set changed. -/
def State.onSet (s : State) (i : SetId) (f : AccSet → AccSet) : State :=
  s.onEdge (fun e => e.set i (f (e.get i)))

/-- R72: a tally counted so many times, one after the other. -/
def countTimes (id : TallyId) : Nat → State → State
  | 0, s => s
  | n + 1, s => countTimes id n (count id 1 s)

/-- R71, R72: an accepted sample added to bin j of the set. -/
def addToBin (i : SetId) (j : Nat) (c : Converted) (s : State) : State :=
  let sat := (((s.edge.get i).bins.getD j Bin.empty).saturations c)
  let free := if (s.edge.get i).accepted = BitVec.allOnes 32 then s.freeCount + 1 else s.freeCount
  let accepted := acceptedAfter (s.edge.get i).accepted s.freeCount
  let s := s.onSet i (fun a => { a with bins := a.bins.modify j (fun b => b.add c), accepted := accepted })
  countTimes .binSaturations sat { s with freeCount := free }

/-- R69, R70: stage 5 for a SHEET sample. -/
def binStage (i : SetId) (k : Tracker) (c : Converted) (s : State) : State :=
  match binOf (s.edge.get i).snap c.pos with
  | none => count .samplesRejected 1 s
  | some j =>
    match fillStep (s.edge.get i).dir k.fill j with
    | none => count .samplesRejected 1 s
    | some p => addToBin i j c (s.onEdge (fun e => { e with tracker := some { k with fill := some p } }))

/-- R59, R65: stages 2 to 5 for a SHEET sample. -/
def sheetSample (i : SetId) (k : Tracker) (c : Converted) (s : State) : State :=
  let snap := (s.edge.get i).snap
  let k' := (k.lead snap.edgeRun c.pos false)
  let hole := if k.leading.isSome then k.air.filter (fun a => a.isHole snap.holeMin) else none
  let s := s.onEdge (fun e => { e with tracker := some (k'.sheet c.pos) })
  let s := match hole with
    | some a => raiseAlarm .hole none (s.edge.get i).scan (some a.first) (count .holes 1 s)
    | none => s
  binStage i (k'.sheet c.pos) c s

/-- R64: the cause an AIR sample sends to the break monitor: the first position of its run. -/
def airRunSent (i : SetId) (k : Tracker) (c : Converted) (s : State) : Option Nat :=
  let after := airSample k.air s.edge.mapping (s.edge.get i).snap c.pos
  if k.leading.isSome && sendsAirRun k.air after then some after.first else none

/-- R59, R63, R64: stages 2 and 3 for an AIR sample, less the sending of AIR_RUN. -/
def airTracked (i : SetId) (k : Tracker) (c : Converted) (s : State) : State :=
  let snap := (s.edge.get i).snap
  let after := airSample k.air s.edge.mapping snap c.pos
  let k' := if k.leading.isSome then k.airStep after (sendsAirRun k.air after) else k.lead snap.edgeRun c.pos true
  s.onEdge (fun e => { e with tracker := some k' })

/-! ### Mapping edges (R67, R68) -/

/-- R68: both scan edges lie within EDGE_TOL of the mapping edges. -/
def withinTolerance (m : Edges) (e : ScanEdges) (tol : Nat) : Bool :=
  decide (absDiff e.front m.front ≤ tol) && decide (absDiff e.back m.back ≤ tol)

/-- R68: the position an EDGE_JUMP alarm carries. -/
def jumpPosition (m : Edges) (e : ScanEdges) : Nat :=
  if absDiff e.front m.front < absDiff e.back m.back then e.back else e.front

/-- R68: the mapping edges at a COMPLETE, non-slipped scan end. -/
def updateMapping (e : ScanEdges) (snap : Snapshot) (scan : Nat) (s : State) : State :=
  let adopt (s : State) : State := s.onEdge (fun u => { u with mapping := some ⟨e.front, e.back⟩, jumps := 0 })
  match s.edge.mapping with
  | none => adopt s
  | some m =>
    if withinTolerance m e snap.edgeTol then adopt s
    else
      let s := raiseAlarm .edgeJump none scan (some (jumpPosition m e)) (count .edgeJumps 1 s)
      if snap.edgeAccept ≤ s.edge.jumps + 1 then adopt s
      else s.onEdge (fun u => { u with jumps := u.jumps + 1 })

/-! ### The life of the sets (R74 to R77) -/

/-- R74 step 4: the parameter snapshot. -/
def takeSnapshot (s : State) : Snapshot :=
  let a := s.setup.active
  { generation := s.setup.generation, stdNumber := (s.std.current.map StdRecord.number).getD 0,
    binOrigin := a.binOrigin, binWidth := a.binWidth, binCount := a.binCount, zoneCount := a.zoneCount,
    zoneKind := a.zoneKind, shrinkCurve := a.shrinkCurve, airThreshold := a.airThreshold, edgeRun := a.edgeRun,
    edgeMargin := a.edgeMargin, edgeTol := a.edgeTol, edgeAccept := a.edgeAccept, breakSpan := a.breakSpan,
    holeMin := a.holeMin, minSamples := a.minSamples, filterBw := a.filterBw, filterDw := a.filterDw,
    filterMo := a.filterMo, filterCa := a.filterCa, holdLimit := a.holdLimit }

/-- R74: the set as it is claimed for a scan. -/
def claimedSet (number : Nat) (dir : Dir) (s : State) : AccSet :=
  { state := .accumulating, scan := number, dir := dir, slipped := false, stale := s.std.stale,
    recovery := decide (s.mon.state = .recovery), edges := none, mapping := none, snap := takeSnapshot s,
    bins := List.replicate s.setup.active.binCount Bin.empty, accepted := 0 }

/-- R74: a FREE set is claimed, with a fresh scan tracker. -/
def claimSet (i : SetId) (number : Nat) (dir : Dir) (s : State) : State :=
  let a := claimedSet number dir s
  (s.onSet i (fun _ => a)).onEdge (fun e => { e with tracker := some Tracker.fresh })

/-- R76: the set of a scan that ends BROKEN, STOPPED or HEAD_FAULT is freed, and the scan tracker is removed. -/
def freeAccumulating (s : State) : State :=
  match s.edge.accumulating with
  | some i => (s.onSet i (fun _ => AccSet.free)).onEdge (fun e => { e with tracker := none })
  | none => s.onEdge (fun e => { e with tracker := none })

/-- R76, R77: the set of a COMPLETE scan takes its copy of the mapping edges and passes to the finalizer. -/
def handOver (i : SetId) (s : State) : State :=
  let st : SetState := if (s.edge.get i.other).state = .finalizing then .waiting else .finalizing
  let m := s.edge.mapping
  (s.onSet i (fun a => { a with state := st, mapping := m })).onEdge (fun e => { e with tracker := none })

end Sys2Proof.Machine
end

