-- ==== Sys2Proof/Machine/Finalize.lean ====
section
/-! DEFINITION. The finalizer (chapter 5) and zone mapping (chapter 6): the ring entry as a function of the ended set,
the ring and the break state, and the ring's own operations. -/

namespace Sys2Proof.Machine

/-! ### Bin values and states (R81, R82) -/

/-- The count that backs a kind (chapter 5, opening). -/
def Bin.countOf (b : Bin) : Kind → Nat
  | .bw => b.nBw
  | .dw => b.nMo
  | .mo => b.nMo
  | .ca => b.nCa

/-- R81: the raw value of a kind in a bin. -/
def rawValue (k : Kind) (b : Bin) : Option Nat :=
  match k with
  | .bw => if 1 ≤ b.nBw then some (nearestNat b.sBw b.nBw) else none
  | .dw => if 1 ≤ b.nMo then some (nearestNat b.sD b.nMo) else none
  | .mo => if 1 ≤ b.nMo ∧ 1 ≤ b.sW + b.sD then some (nearestNat (b.sW * 10000) (b.sW + b.sD)) else none
  | .ca => if 1 ≤ b.nCa then some (nearestNat b.sC b.nCa) else none

/-- R82: the raw state of a kind in bin j, against the scan's edges. -/
def rawState (snap : Snapshot) (e : ScanEdges) (j : Nat) (k : Kind) (b : Bin) : RawState :=
  let lo := snap.binOrigin + j * snap.binWidth
  let hi := lo + snap.binWidth
  if hi < e.front + 1 ∨ e.back < lo then .off
  else if lo < e.front + snap.edgeMargin ∨ e.back + 1 < hi + snap.edgeMargin then .edge
  else if b.countOf k < snap.minSamples ∨ rawValue k b = none then .thin
  else .on

/-! ### Filtered bins (R83 to R85) -/

/-- A filtered part with no value (R83). -/
def FiltPart.none : FiltPart := ⟨.invalid, Option.none, 0⟩

/-- The filter constant of a kind (R83). -/
def Snapshot.filterOf (snap : Snapshot) : Kind → Nat
  | .bw => snap.filterBw
  | .dw => snap.filterDw
  | .mo => snap.filterMo
  | .ca => snap.filterCa

/-- R84: the filtered value of a reading. -/
def filterStep (prev value k : Nat) : Nat := ((prev : Int) + nearestInt (((value : Int) - prev) * k) 256).toNat

/-- R84: the new filtered part of an entry that does not reseed. -/
def filtered (k holdLimit : Nat) (state : RawState) (value : Option Nat) (prev : FiltPart) : FiltPart :=
  match state, value, prev.value with
  | .on, some v, some f => ⟨.on, some (filterStep f v k), 0⟩
  | .on, some v, none => ⟨.on, some v, 0⟩
  | _, _, some f => if prev.age + 1 ≤ holdLimit then ⟨.held, some f, prev.age + 1⟩ else FiltPart.none
  | _, _, none => FiltPart.none

/-- R85: the filtered part of an entry that reseeds. -/
def reseeded (state : RawState) (value : Option Nat) : FiltPart :=
  match state with
  | .on => ⟨.on, value, 0⟩
  | _ => FiltPart.none

/-- R83: the previous filtered part: it is valid in ON and HELD alone. -/
def previousPart (prev : Option RingEntry) (k : Kind) (j : Nat) : FiltPart :=
  match (prev.bind fun e => (e.body.get k)[j]?) with
  | some c => if c.filt.state = .invalid then FiltPart.none else c.filt
  | none => FiltPart.none

/-- One kind in bin j of the entry, `prev` being the previous entry when the entry does not reseed. -/
def formCell (snap : Snapshot) (e : ScanEdges) (reseed : Bool) (prev : Option RingEntry) (k : Kind) (j : Nat)
    (b : Bin) : Cell :=
  let value := rawValue k b
  let state := rawState snap e j k b
  ⟨value, state,
    if reseed then reseeded state value
    else filtered (snap.filterOf k) snap.holdLimit state value (previousPart prev k j)⟩

/-- The cells of one kind, bin by bin. -/
def formCells (a : AccSet) (e : ScanEdges) (reseed : Bool) (prev : Option RingEntry) (k : Kind) : List Cell :=
  a.bins.mapIdx (fun j b => formCell a.snap e reseed prev k j b)

/-! ### Statistics (R87) -/

/-- R87: the raw values of the bins that are ON. -/
def onValues (cells : List Cell) : List Nat :=
  cells.filterMap (fun c => if c.rawState = .on then c.raw else none)

/-- R87: the statistics of one kind; none when no bin is ON. -/
def statsOf (values : List Nat) : Option Stats :=
  match values with
  | [] => none
  | v :: rest =>
    let m := values.length
    let mean := nearestNat values.sum m
    let var := (values.map (fun x => absDiff x mean * absDiff x mean)).sum / m
    some ⟨m, mean, 2 * floorSqrt var, rest.foldl min v, rest.foldl max v⟩

/-! ### Zones (R88, R102 to R107) -/

/-- R102: boundary k of Z zones between the mapping edges. -/
def boundary (curve : List Nat) (m : Edges) (z k : Nat) : Nat :=
  m.front + (m.back - m.front) * lookup curve (k * 32768 / z) / 32768

/-- R102: the boundary list. -/
def boundaries (curve : List Nat) (m : Edges) (z : Nat) : List Nat :=
  (List.range (z + 1)).map (boundary curve m z)

/-- R104: the centre of bin j. -/
def binCentre (snap : Snapshot) (j : Nat) : Nat := snap.binOrigin + j * snap.binWidth + snap.binWidth / 2

/-- R104: a centre belongs to zone k of Z, by the boundary list. -/
def inZone (bounds : List Nat) (z k c : Nat) : Bool :=
  decide (bounds.getD k 0 ≤ c) &&
    (decide (c < bounds.getD (k + 1) 0) || (decide (k + 1 = z) && decide (c = bounds.getD z 0)))

/-- R105: the filtered value a bin contributes, when it is ON or HELD. -/
def contribution (c : Cell) : Option Nat := if c.filt.state = .invalid then none else c.filt.value

/-- R104, R105: the filtered values that contribute to zone k. -/
def zoneValues (snap : Snapshot) (bounds : List Nat) (cells : List Cell) (z k : Nat) : List Nat :=
  (cells.mapIdx (fun j c => if inZone bounds z k (binCentre snap j) then contribution c else none)).filterMap
    (fun v => v)

/-- R106: a zone from its contributing values. -/
def formZone (values : List Nat) : Zone :=
  if values.isEmpty then ⟨none, 0⟩ else ⟨some (nearestNat values.sum values.length), values.length⟩

/-- R102 to R107: the zone profile over the cells of ZONE_KIND. -/
def formZones (snap : Snapshot) (m : Edges) (cells : List Cell) : ZoneProfile :=
  let z := snap.zoneCount
  let bounds := boundaries snap.shrinkCurve m z
  { kind := snap.zoneKind, bounds := bounds,
    zones := (List.range z).map (fun k => formZone (zoneValues snap bounds cells z k)) }

/-- R88: an entry carries a zone profile when the set's mapping edges are present and ZONE_COUNT is at least 1. -/
def zonesOf (a : AccSet) (body : PerKind (List Cell)) : Option ZoneProfile :=
  match a.mapping with
  | some m => if 1 ≤ a.snap.zoneCount then some (formZones a.snap m (body.get a.snap.zoneKind)) else none
  | none => none

/-! ### The entry (R85, R89, R90) -/

/-- R83: the newest entry not marked for removal. -/
def Ring.newest (r : Ring) : Option RingEntry := r.entries.reverse.find? (fun e => !e.marked)

/-- R85 condition 2: the previous entry has the set's bin geometry. -/
def sameGeometry (e : RingEntry) (snap : Snapshot) : Bool :=
  decide (e.header.binOrigin = snap.binOrigin) && decide (e.header.binWidth = snap.binWidth) &&
    decide (e.header.binCount = snap.binCount)

/-- R85 condition 4: the break rule applies to a scan. -/
def Ring.breakRule (r : Ring) (scan : Nat) : Bool := r.reseedPending && decide (r.breakScan < scan)

/-- R85: the entry of a set reseeds. -/
def reseeds (r : Ring) (a : AccSet) : Bool :=
  match r.newest with
  | none => true
  | some e => !sameGeometry e a.snap || r.flush || r.breakRule a.scan

/-- R89: the control-valid flag. -/
def controlValid (st : BreakState) (a : AccSet) (zones : Option ZoneProfile) : Bool :=
  decide (st = .sheetOn) && !a.stale && !a.slipped && zones.isSome

/-- The scan edges of an ended set, fixed at its COMPLETE scan end (R66). -/
def AccSet.scanEdges (a : AccSet) : ScanEdges := a.edges.getD ⟨0, 0, 0⟩

/-- R80 steps 1 to 5, R90: the ring entry of an ended set. -/
def formEntry (a : AccSet) (r : Ring) (st : BreakState) : RingEntry :=
  let reseed := reseeds r a
  let body := PerKind.of (formCells a a.scanEdges reseed r.newest)
  let zones := zonesOf a body
  { header :=
      { scan := a.scan, dir := a.dir, edges := a.scanEdges, mapping := a.mapping, slipped := a.slipped,
        stale := a.stale, recovery := a.recovery, reseeded := reseed, controlValid := controlValid st a zones,
        generation := a.snap.generation, stdNumber := a.snap.stdNumber, binOrigin := a.snap.binOrigin,
        binWidth := a.snap.binWidth, binCount := a.snap.binCount, accepted := a.accepted,
        stats := PerKind.of (fun k => statsOf (onValues (body.get k))) }
    body := body, zones := zones, marked := false }

/-! ### The profile ring (R92 to R95) -/

/-- R94: a port pins the entry of this scan. -/
def Ring.pinned (r : Ring) (scan : Nat) : Bool :=
  decide (r.pins.sp0 = some scan) || decide (r.pins.sp1 = some scan) || decide (r.pins.sp2 = some scan)

/-- R93: room for one more entry: the oldest unpinned entry of a full ring is evicted. -/
def Ring.room (r : Ring) : List RingEntry :=
  if 4 ≤ r.entries.length then r.entries.eraseP (fun e => !r.pinned e.header.scan) else r.entries

/-- R80 steps 6 and 7, R86: the ring with the entry of a set added, the flush mark cleared, and the reseed-pending
flag cleared when the break rule applied. -/
def Ring.add (r : Ring) (e : RingEntry) : Ring :=
  { r with entries := r.room ++ [e], flush := false,
           reseedPending := r.reseedPending && !r.breakRule e.header.scan }

/-- R94: the pin of a port is released, and an entry marked for removal that no port pins any more is removed. -/
def Ring.release (r : Ring) (p : PortId) : Ring :=
  let r' := { r with pins := r.pins.set p none }
  { r' with entries := r'.entries.filter (fun e => !e.marked || r'.pinned e.header.scan) }

/-- R95: FLUSH PROFILES. -/
def Ring.flushed (r : Ring) : Ring :=
  { r with flush := true,
           entries := (r.entries.filter (fun e => r.pinned e.header.scan)).map (fun e => { e with marked := true }) }

/-- R91: the PROFILE_READY notice of an entry. -/
def profileNotice (e : RingEntry) : Notice :=
  .profileReady e.header.scan e.header.dir e.header.slipped e.header.stale e.header.recovery e.header.reseeded
    e.header.controlValid e.zones.isSome e.header.generation

end Sys2Proof.Machine
end

