-- ==== Sys2Proof/Machine/Standardize.lean ====
section
/-! DEFINITION. The standardization unit (chapter 2): its start, its phases, the record's values and checks, and the
unit's own part in a result. What the traverse controller does with a result is in Traverse.lean. -/

namespace Sys2Proof.Machine

/-- The state with the standardization unit changed. -/
def State.onStd (s : State) (f : StdUnit → StdUnit) : State := { s with std := f s.std }

/-! ### Beginning a standardization (R28) -/

/-- R28 step 4: a standardization in flight at its start, with the captured values. -/
def StdFlight.start (samples driftLimit : Nat) : StdFlight :=
  { phase := .dark, counting := false, taken := 0, nDark := 0, sDark := 0, nAir := 0, sAirBw := 0, sAirAbs := 0,
    sAirRef := 0, nFine := 0, sFine := 0, nCoarse := 0, sCoarse := 0, shutterError := false, samples := samples,
    driftLimit := driftLimit }

/-- R28: a standardization begins. -/
def startStandardization (s : State) : State :=
  let s := applyGroup (s.onStd (fun u => { u with retry := none }))
  let fl := StdFlight.start s.setup.active.stdSamples s.setup.active.driftLimit
  issue .dark (s.onStd (fun u => { u with flight := some fl }))

/-! ### The phases (R29 to R31) -/

/-- R29: the head command that begins a phase. -/
def Phase.command : Phase → HeadCmd
  | .dark => .dark
  | .air => .air
  | .zeroF => .zero .fine
  | .zeroC => .zero .coarse

/-- R29: the phase after a phase; none after ZERO_C. -/
def Phase.after : Phase → Option Phase
  | .dark => some .air
  | .air => some .zeroF
  | .zeroF => some .zeroC
  | .zeroC => none

/-- R29: the condition of a phase on a sample: the shutter in DARK and AIR, the range in ZERO_F and ZERO_C. -/
def Phase.meets (p : Phase) (f : SampleFrame) : Bool :=
  match p with
  | .dark => !shutterOpen f
  | .air => shutterOpen f
  | .zeroF => decide (calRange f = .fine)
  | .zeroC => decide (calRange f = .coarse)

/-- R29, R40: the samples counted in the phase in flight. -/
def StdFlight.counted (x : StdFlight) : Nat :=
  match x.phase with
  | .dark => x.nDark
  | .air => x.nAir
  | .zeroF => x.nFine
  | .zeroC => x.nCoarse

/-- R29 to R31: a sample counted and added to the sums of the phase in flight. -/
def StdFlight.add (x : StdFlight) (f : SampleFrame) : StdFlight :=
  match x.phase with
  | .dark => { x with nDark := x.nDark + 1, sDark := x.sDark + countField f.bwCount }
  | .air =>
    { x with nAir := x.nAir + 1, sAirBw := x.sAirBw + countField f.bwCount,
             sAirAbs := x.sAirAbs + countField f.irAbs, sAirRef := x.sAirRef + countField f.irRef }
  | .zeroF => { x with nFine := x.nFine + 1, sFine := x.sFine + calRaw f }
  | .zeroC => { x with nCoarse := x.nCoarse + 1, sCoarse := x.sCoarse + calRaw f }

/-- R29, R31: a phase that looks at the shutter. -/
def Phase.looksAtShutter : Phase → Bool
  | .dark | .air => true
  | .zeroF | .zeroC => false

/-- R29 to R31: a sample taken in the phase in flight. In DARK and AIR it is counted once counting has begun, whatever
its flags, and a wrong shutter sets the mark; in a ZERO phase only a sample of the phase's range is counted. -/
def StdFlight.take (x : StdFlight) (f : SampleFrame) : StdFlight :=
  let good := x.phase.meets f
  let y := { x with taken := x.taken + 1 }
  if x.phase.looksAtShutter then
    if x.counting || good then { y.add f with counting := true, shutterError := x.shutterError || !good }
    else { y with counting := decide (x.samples ≤ x.taken + 1) }
  else if good then { y.add f with counting := true }
  else y

/-- R29, R31: the phase in flight has counted its samples, or, in a ZERO phase, has taken N samples in all. -/
def StdFlight.phaseOver (x : StdFlight) : Bool :=
  match x.phase with
  | .dark | .air => decide (x.samples ≤ x.counted)
  | .zeroF | .zeroC => decide (x.samples / 4 ≤ x.counted) || decide (x.samples ≤ x.taken)

/-- R29: a phase begins, settling. -/
def StdFlight.enter (x : StdFlight) (p : Phase) : StdFlight := { x with phase := p, counting := false, taken := 0 }

/-! ### Averages, checks and the record (R32 to R34) -/

/-- R31, R32: a caliper zero; an empty average takes the current record's zero, or 0. -/
def zeroOf (sum : Int) (n : Nat) (current : Option Int) : Int := if n = 0 then current.getD 0 else nearestInt sum n

/-- R32: q0. -/
def q0Of (a0 b0 : Nat) : Nat := if 1 ≤ a0 ∧ 1 ≤ b0 then a0 * 65536 / b0 else 0

/-- R33: the drift against the current record. -/
def driftOf (c0 prev : Nat) : Nat := absDiff c0 prev * 10000 / prev

/-- R33: the checks, in order. -/
def checkResult (shutterError : Bool) (cd c0 a0 b0 : Nat) (drift : Option Nat) (limit : Nat) : StdResult :=
  if shutterError then .failShutter
  else if c0 < cd + 1024 then .failSource
  else if a0 = 0 ∨ b0 = 0 then .failIr
  else match drift with
    | none => .pass
    | some d => if 4 * limit < d then .failDrift else if limit < d then .drift else .pass

/-- R32 to R34: the record of a standardization whose phases are complete. -/
def makeRecord (x : StdFlight) (current : Option StdRecord) (number scan : Nat) : StdRecord :=
  let cd := nearestNat x.sDark x.nDark
  let c0 := nearestNat x.sAirBw x.nAir
  let a0 := nearestNat x.sAirAbs x.nAir
  let b0 := nearestNat x.sAirRef x.nAir
  let drift := current.map (fun r => driftOf c0 r.c0)
  { number := number, result := checkResult x.shutterError cd c0 a0 b0 drift x.driftLimit, cd := cd, c0 := c0,
    a0 := a0, b0 := b0, q0 := q0Of a0 b0, zf := zeroOf x.sFine x.nFine (current.map StdRecord.zf),
    zc := zeroOf x.sCoarse x.nCoarse (current.map StdRecord.zc), drift := drift, scan := scan }

/-- R35: PASS and DRIFT are accepted. -/
def StdResult.accepted : StdResult → Bool
  | .pass | .drift => true
  | _ => false

/-- R27: the record number after a number, wrapping from 65535 to 1. -/
def nextRecordNumber (n : Nat) : Nat := if n = max16 then 1 else n + 1

/-! ### The unit's part in a result (R35, R36, R39) -/

/-- R35, R122, R9: an accepted result on the unit, the traverse flags and counts and the standardized-in-break flag,
as they stand after the result has been taken. -/
def acceptRecord (r : StdRecord) (s : State) : State :=
  { s with
    std := { s.std with current := some r, previous := s.std.current, stale := false, retry := none,
                        lastResult := some (r.number, r.result), flight := none }
    trav := { s.trav with stdDue := false, stdAtPark := false, sinceStd := 0, failCount := 0 }
    mon := { s.mon with stdInBreak := s.mon.stdInBreak || decide (s.mon.state = .brk) ||
                                      decide (s.mon.state = .threading) } }

/-- R36, R13: a failed result on the unit and the traverse flags and counts: with a current record the stale flag is
set, and below three failures the due and at-park flags are cleared and the retry countdown is set to 2. -/
def failRecord (r : StdRecord) (s : State) : State :=
  let n := s.trav.failCount + 1
  let held := s.std.current.isSome
  let retries := held && decide (n < 3)
  { s with
    std := { s.std with stale := s.std.stale || held, retry := if retries then some 2 else s.std.retry,
                        lastResult := some (r.number, r.result), flight := none }
    trav := { s.trav with failCount := n, stdDue := s.trav.stdDue && !retries,
                          stdAtPark := s.trav.stdAtPark && !retries } }

/-- R153: the group-due mark is acted on once the result has had its own effect on standardization due. -/
def actOnGroupMark (s : State) : State :=
  if s.setup.groupMark then
    (s.onSetup (fun t => { t with groupMark := false })).onTrav (fun t => { t with stdDue := true })
  else s

/-- R35, R36, R39: the tally, the alarm and the STD_DONE notice of a result, which carries the stale flag and the
failure count as they stand after the result has been taken. -/
def reportResult (r : StdRecord) (s : State) : State :=
  let s := if r.result.accepted then s else count .stdFailures 1 s
  let s := match r.result with
    | .pass => s
    | .drift => raiseAlarm .stdDrift none r.scan none s
    | _ => raiseAlarm .stdFail none r.scan none s
  notify (.stdDone r s.std.stale s.trav.failCount) s

/-- R32 to R36, R39, R153: the phases are complete: STOP is sent, the record is made and takes the next number, and the
result is taken, up to the choice of the next traverse state. -/
def concludeStandardization (x : StdFlight) (s : State) : State :=
  let s := issue .stop s
  let r := makeRecord x s.std.current s.std.nextNumber s.trav.scanNumber
  let s := s.onStd (fun u => { u with nextNumber := nextRecordNumber u.nextNumber })
  let s := if r.result.accepted then acceptRecord r s else failRecord r s
  actOnGroupMark (reportResult r s)

end Sys2Proof.Machine
end

