-- ==== Sys2Proof/Machine/Traverse.lean ====
section
/-! DEFINITION. The traverse controller (chapter 1): positioning, parking and standardizing, scan starts and scan ends,
head faults, and what it does when the break monitor tells it of a break or of RECOVERY. -/

namespace Sys2Proof.Machine

/-! ### Targets and directions (R11, R14, R15) -/

/-- R11: the nearer turn point, TURN_F at a tie. -/
def nearerTurn (s : State) : MoveTarget :=
  if absDiff s.trav.pos s.setup.active.turnF ≤ absDiff s.trav.pos s.setup.active.turnD then .turnF else .turnD

/-- R14: the position of a target. -/
def State.targetPos (s : State) : MoveTarget → Nat
  | .turnF => s.setup.active.turnF
  | .turnD => s.setup.active.turnD
  | .dwellPos => s.trav.dwellPos

/-- R15: the turn point a scan runs to. -/
def Dir.farPoint : Dir → MoveTarget
  | .fwd => .turnD
  | .rev => .turnF

/-- R15: the turn point a scan starts from. -/
def Dir.startPoint : Dir → MoveTarget
  | .fwd => .turnF
  | .rev => .turnD

/-- R16: the direction of the next scan. -/
def Dir.opposite : Dir → Dir
  | .fwd => .rev
  | .rev => .fwd

/-! ### Entering POSITIONING and STANDARDIZING (R13, R14) -/

/-- R14: the stored dwell position is clamped again for a dwell target. -/
def clampDwell (t : MoveTarget) (s : State) : State :=
  match t with
  | .dwellPos =>
    s.onTrav (fun v => { v with dwellPos := clampNat s.setup.active.turnF s.setup.active.turnD v.dwellPos })
  | _ => s

/-- R14: POSITIONING is entered toward a target. -/
def enterPositioning (t : MoveTarget) (s : State) : State :=
  let s := clampDwell t s
  changeState .positioning ((issue (.move (s.targetPos t)) s).onTrav (fun v => { v with target := some t }))

/-- R13: STANDARDIZING is entered. The change of state is noticed before the store applies the group (log entry 9). -/
def enterStandardizing (s : State) : State :=
  startStandardization
    (changeState .standardizing (s.onTrav (fun t => { t with stdAtPark := false, moveTimer := none })))

/-- R12 items 2 to 4, R13: the state for which park or STANDARDIZING is left, by the intent and the break state. -/
def resume (s : State) : State :=
  if s.permits then
    match s.trav.intent with
    | .scan => enterPositioning .turnF s
    | .dwell => enterPositioning .dwellPos s
    | .off => changeState .idle s
  else changeState .idle s

/-- R12 item 1: STANDARDIZING follows an arrival at park. -/
def standardizesAtPark (s : State) : Bool :=
  s.trav.stdDue && (s.trav.stdAtPark || (decide (s.trav.intent ≠ .off) && s.permits))

/-- R12: arrival at park. -/
def arrivalAtPark (s : State) : State :=
  let a := s.setup.active
  let s := s.onTrav (fun t =>
    { t with atPark := true, pos := if a.positionMode = .reckoned then a.parkPos else t.pos })
  if standardizesAtPark s then enterStandardizing s else resume s

/-- R11, R20, R22: the frame starts from IDLE while the break state permits scanning. -/
def idleStart (t : MoveTarget) (s : State) : State :=
  if !s.trav.atPark then park s
  else if s.trav.stdDue then enterStandardizing s
  else enterPositioning t s

/-! ### Scan ends (R16, R17, R152) -/

/-- R17: the tally of an end code. -/
def EndCode.tally : EndCode → TallyId
  | .complete => .scansComplete
  | .broken => .scansBroken
  | .stopped => .scansStopped
  | .headFault => .scansFaulted

/-- R17: a scan end is reported; `width` is the edge width of a COMPLETE scan. -/
def reportScanEnd (code : EndCode) (width : Nat) (s : State) : State :=
  match s.trav.cur with
  | none => s
  | some c =>
    let s := count code.tally 1 (s.onTrav (fun t => { t with cur := none }))
    let s := notify (.scanEnd c.number c.dir code) s
    match code with
    | .complete => reportComplete width s
    | _ => s

/-- R152, R153, R114: the scan-end application, `was` being whether the armed group was due before the scan end. -/
def applyScanEnd (was : Bool) (s : State) : State :=
  let old := s.setup.active
  let s := testGroup was (applyArmed (scanEndSelects s) .scanEnd s)
  enableInScanEnd .tail old (enableInScanEnd .brk old s)

/-- R17, R76, R152: the scan in progress ends BROKEN, STOPPED or HEAD_FAULT away from its scan end event. -/
def endScan (code : EndCode) (s : State) : State :=
  applyScanEnd s.groupDue (reportScanEnd code 0 (freeAccumulating s))

/-! ### Head faults (R23) -/

/-- R23, R13: FAULT is entered; head-at-park is kept after three failures alone. -/
def enterFault (keepPark : Bool) (s : State) : State :=
  changeState .fault
    (s.onTrav (fun t => { t with dwell := .empty, atPark := t.atPark && keepPark, stdDue := true }))

/-- R23, R38, R153: a standardization in flight is abandoned, and the group-due mark goes with it. -/
def abandonStandardization (s : State) : State :=
  if s.trav.state = .standardizing then
    (s.onStd (fun u => { u with flight := none })).onSetup (fun t => { t with groupMark := false })
  else s

/-- R23: a head fault that is taken. -/
def takeHeadFault (s : State) : State :=
  let s := issue .stop s
  let s := if s.trav.cur.isSome then endScan .headFault s else s
  enterFault false (abandonStandardization s)

/-- R23: a head fault: none in FAULT, and in IDLE only while the link is UP. -/
def headFault (s : State) : State :=
  match s.trav.state with
  | .fault => s
  | .idle => if s.link.up then takeHeadFault s else s
  | _ => takeHeadFault s

/-! ### Scan starts (R15) -/

/-- R15: a scan starts in a FREE set. -/
def runScan (i : SetId) (dir : Dir) (s : State) : State :=
  let s := applyAtScanStart s
  let n := s.trav.scanNumber + 1
  let s := claimSet i n dir (s.onTrav (fun t => { t with scanNumber := n }))
  let s := s.onTrav (fun t => { t with cur := some ⟨n, dir, false⟩ })
  changeState .scanning
    ((issue (.move (s.targetPos dir.farPoint)) s).onTrav (fun t => { t with target := some dir.farPoint }))

/-- R15: a scan is to start: TURN_WAIT when both sets are occupied, a head fault when the scan numbers have run out. -/
def startScan (dir : Dir) (s : State) : State :=
  match s.edge.freeSet with
  | none => changeState .turnWait (s.onTrav (fun t => { t with target := some dir.startPoint }))
  | some i => if max32 ≤ s.trav.scanNumber then headFault s else runScan i dir s

/-! ### Arrival at a target (R14) -/

/-- R14: arrival in POSITIONING. A target counts as a turn point when it stands there. -/
def arrivalAtTarget (s : State) : State :=
  match s.trav.target, s.trav.intent with
  | some t, .scan =>
    if s.targetPos t = s.setup.active.turnF then startScan .fwd s
    else if s.targetPos t = s.setup.active.turnD then startScan .rev s
    else enterPositioning (nearerTurn s) s
  | some t, .dwell =>
    if s.targetPos t = s.trav.dwellPos then changeState .dwelling (s.onTrav (fun v => { v with dwell := .empty }))
    else enterPositioning .dwellPos s
  | _, _ => s

/-! ### The scan end event (R16) -/

/-- R9, R37: the counts of a COMPLETE scan end. -/
def countComplete (s : State) : State :=
  let n := min (s.trav.sinceStd + 1) 255
  let out := decide (s.std.retry = some 1)
  let due := s.trav.stdDue || decide (s.setup.active.stdInterval ≤ n) || out
  (s.onTrav (fun t => { t with sinceStd := n, stdDue := due })).onStd
    (fun u => { u with retry := if out then none else u.retry.map (· - 1) })

/-- R16 step 5 of a scan that ended COMPLETE. A break that the scan end's own application declared leaves no scan to
start, and the head parks (log entry 12). -/
def afterComplete (dir : Dir) (s : State) : State :=
  if !s.permits then park s
  else if s.trav.stdDue ∧ dir = .rev then park s
  else startScan dir.opposite s

/-- R16 steps 1 and 2, R66, R68, R76: the set of a scan with these edges. -/
def completeSet (i : SetId) (e : ScanEdges) (s : State) : State :=
  let a := s.edge.get i
  let s := s.onSet i (fun a => { a with edges := some e })
  handOver i (if a.slipped then s else updateMapping e a.snap a.scan s)

/-- R16: a scan end event that finds sheet. -/
def endComplete (i : SetId) (c : CurScan) (e : ScanEdges) (s : State) : State :=
  let was := s.groupDue
  let s := countComplete (reportScanEnd .complete e.width (completeSet i e s))
  afterComplete c.dir (applyScanEnd was s)

/-- R16: a scan end event that finds no sheet. -/
def endNoSheet (c : CurScan) (s : State) : State :=
  let was := s.groupDue
  let s := reportScanEnd .broken 0 (freeAccumulating (breakCause .noSheet c.number none s))
  park (applyScanEnd was s)

/-- R16: the scan end event. -/
def scanEndEvent (s : State) : State :=
  match s.edge.accumulating, s.edge.tracker, s.trav.cur with
  | some i, some k, some c =>
    match k.scanEdges with
    | some e => endComplete i c e s
    | none => endNoSheet c s
  | _, _, _ => s

/-! ### What the break monitor tells the controller (R22) -/

/-- R22: break declared. No action once the scan in SCANNING is being ended (R16, log entry 12). -/
def traverseBreak (s : State) : State :=
  match s.trav.state with
  | .scanning => if s.trav.cur.isSome then park (endScan .broken s) else s
  | .turnWait | .positioning => park s
  | .dwelling => park (s.onTrav (fun t => { t with dwell := .empty }))
  | _ => s

/-- R22: the break state entered RECOVERY. -/
def traverseRecovered (s : State) : State :=
  match s.trav.state, s.trav.intent with
  | .idle, .scan => idleStart .turnF s
  | .idle, .dwell => idleStart .dwellPos s
  | _, _ => s

/-- R22: the controller acts on what the break monitor tells it. -/
def tellTraverse (e : TravEvent) (s : State) : State :=
  match e with
  | .quiet => s
  | .broke => traverseBreak s
  | .recovered => traverseRecovered s

/-- R117, R118: a measured break cause, with step 9 of R117. -/
def takeCause (cause : Cause) (scan : Nat) (pos : Option Nat) (s : State) : State :=
  tellTraverse (if s.permits then .broke else .quiet) (breakCause cause scan pos s)

/-- R116: an edge of a line, whose debounced state has taken the level. -/
def lineEdge (l : Line) (s : State) : State := tellTraverse (edgeEvent l s) (edgeEffect l s)

/-- R114: the effect of an enable that a commit applies. -/
def enableAtCommit (l : Line) (old : Setup) (s : State) : State :=
  let was := justEnabled l old s
  let s := resetLine l old s
  if was then if edgeAtOnce l s then lineEdge l (takeLevel l s) else compareLevel l s else s

/-! ### Results of a standardization (R13) -/

/-- R13: a failed result, its effects on the unit and the flags having been taken. -/
def afterFailure (s : State) : State :=
  if 3 ≤ s.trav.failCount then enterFault true (issue .stop s)
  else if s.std.current.isNone then startStandardization s
  else resume s

/-- R13: the controller takes the result of a standardization. -/
def takeResult (s : State) : State :=
  match s.std.lastResult with
  | some (_, r) => if r.accepted then resume s else afterFailure s
  | none => s

end Sys2Proof.Machine
end

