-- ==== Sys2Proof/Machine/Samples.lean ====
section
/-! DEFINITION. The way of a sample record: the gap check (R4), position reckoning and the index marks (R5, R6), and
the destination that the traverse state selects (R4, R21, R29, R59). -/

namespace Sys2Proof.Machine

/-- The state with the carriage link interface changed. -/
def State.onLink (s : State) (f : CarriageLink → CarriageLink) : State := { s with link := f s.link }

/-- R3: a checked carriage-link frame sets the link UP and starts the silence timer afresh. -/
def frameSeen (s : State) : State :=
  s.onLink (fun l => { l with up := true, silence := some s.setup.active.headTimeout })

/-! ### The gap check (R4) -/

/-- R4: the number of missing samples. -/
def missing (last seq : BitVec 16) : Nat := (seq - last - 1).toNat

/-- R4: the sample is a repeat. -/
def isRepeat (f : SampleFrame) (s : State) : Bool := decide (s.link.lastSeq = some f.seq)

/-- R4: a gap is counted, and the sample's seq becomes the last seq. -/
def takeSeq (f : SampleFrame) (s : State) : State :=
  let n := (s.link.lastSeq.map (fun last => missing last f.seq)).getD 0
  let s := s.onLink (fun l => { l with lastSeq := some f.seq })
  if n = 0 then s else count .samplesMissing n s

/-! ### Position (R5, R6) -/

/-- R5, R188: the current position after a sample. -/
def reckoned (f : SampleFrame) (s : State) : Nat :=
  match s.setup.active.positionMode with
  | .encoder => encoderPos f.pos
  | .reckoned => stepPos s.trav.pos (reckonedStep f.pos)

/-- The state with the current position replaced (R5). -/
def State.setPos (s : State) (p : Nat) : State := s.onTrav (fun t => { t with pos := p })

/-- R6: the mark a sample at position p is checked against; none when it carries no index flag. -/
def markOf (f : SampleFrame) (a : Setup) (p : Nat) : Option Nat :=
  if indexFFlag f then
    if indexDFlag f then some (if absDiff p a.indexF ≤ absDiff p a.indexD then a.indexF else a.indexD)
    else some a.indexF
  else if indexDFlag f then some a.indexD
  else none

/-- R6, R75: the current scan and its set are marked slipped. -/
def markSlipped (s : State) : State :=
  if s.trav.state = .scanning then
    let s := s.onTrav (fun t => { t with cur := t.cur.map (fun c => { c with slipped := true }) })
    match s.edge.accumulating with
    | some i => s.onSet i (fun a => { a with slipped := true })
    | none => s
  else s

/-- R6: the check of a sample at position p against a mark. -/
def checkMark (mark p : Nat) (s : State) : State :=
  let a := s.setup.active
  let s := if a.positionMode = .reckoned then s.setPos mark else s
  if absDiff p mark ≤ a.slipTol then s
  else markSlipped (raiseAlarm .positionSlip none s.trav.scanNumber (some p) (count .positionSlips 1 s))

/-- R5, R6: a taken sample's position is reckoned and checked. -/
def reckon (f : SampleFrame) (s : State) : State :=
  let p := reckoned f s
  let s := s.setPos p
  match markOf f s.setup.active p with
  | some mark => checkMark mark p s
  | none => s

/-! ### Samples in SCANNING (R47, R59, R64) -/

/-- R60, R64: an AIR sample, AIR_RUN reaching the break monitor. -/
def airSampleStep (i : SetId) (k : Tracker) (c : Converted) (s : State) : State :=
  match airRunSent i k c s with
  | some first => takeCause .airRun (s.edge.get i).scan (some first) (airTracked i k c s)
  | none => airTracked i k c s

/-- R47, R59: a sample in SCANNING. -/
def scanSample (f : SampleFrame) (s : State) : State :=
  match s.edge.accumulating, s.edge.tracker with
  | some i, some k =>
    match convert s.std.current s.setup.active f s.trav.pos with
    | none => count .samplesRejected 1 s
    | some c =>
      if isAir (s.edge.get i).snap.airThreshold c.t then airSampleStep i k c s else sheetSample i k c s
  | _, _ => s

/-! ### Samples in DWELLING (R21) -/

/-- R21: a SHEET sample added to the dwell accumulator. -/
def DwellAcc.add (d : DwellAcc) (c : Converted) : DwellAcc :=
  let w := c.water.getD (0, 0)
  { n := d.n + 1, sBw := d.sBw + c.bw,
    nMo := d.nMo + (if c.water.isSome then 1 else 0), sW := d.sW + w.1, sD := d.sD + w.2,
    nCa := d.nCa + (if c.cal.isSome then 1 else 0), sC := d.sC + c.cal.getD 0, air := 0 }

/-- R21: the moisture of a dwell average. -/
def DwellAcc.moisture (d : DwellAcc) : Option Nat :=
  if d.nMo = 0 ∨ d.sW + d.sD = 0 then none else some (nearestNat (d.sW * 10000) (d.sW + d.sD))

/-- R21: the caliper of a dwell average. -/
def DwellAcc.caliper (d : DwellAcc) : Option Nat := if d.nCa = 0 then none else some (nearestNat d.sC d.nCa)

/-- R21: the DWELL_AVERAGE notice of an accumulator. -/
def averageNotice (d : DwellAcc) (s : State) : Notice :=
  .dwellAverage s.trav.dwellPos s.trav.scanNumber d.n (nearestNat d.sBw d.n) d.moisture d.caliper

/-- The state with the dwell accumulator replaced (R21). -/
def State.setDwell (s : State) (d : DwellAcc) : State := s.onTrav (fun t => { t with dwell := d })

/-- R21: a SHEET sample in DWELLING; a completed period gives a DWELL_AVERAGE and returns the sums to 0. -/
def dwellSheet (c : Converted) (s : State) : State :=
  let d := s.trav.dwell.add c
  if s.setup.active.dwellPeriod ≤ d.n then notify (averageNotice d s) (s.setDwell DwellAcc.empty)
  else s.setDwell d

/-- R21: an AIR sample in DWELLING; DWELL_AIR reaches the break monitor when the air run is long enough. -/
def dwellAir (s : State) : State :=
  let n := s.trav.dwell.air + 1
  if s.setup.active.dwellBreakSamples ≤ n then
    takeCause .dwellAir s.trav.scanNumber (some s.trav.dwellPos) (s.setDwell { s.trav.dwell with air := 0 })
  else s.setDwell { s.trav.dwell with air := n }

/-- R21, R47: a sample in DWELLING. -/
def dwellSample (f : SampleFrame) (s : State) : State :=
  match convert s.std.current s.setup.active f s.trav.pos with
  | none => count .samplesRejected 1 s
  | some c => if isAir s.setup.active.airThreshold c.t then dwellAir s else dwellSheet c s

/-! ### Samples in STANDARDIZING (R29 to R32) -/

/-- R29, R32: what follows a sample of the phase in flight. -/
def stdAdvance (x : StdFlight) (s : State) : State :=
  if x.phaseOver then
    match x.phase.after with
    | some p => issue p.command (s.onStd (fun u => { u with flight := some (x.enter p) }))
    | none => takeResult (concludeStandardization x s)
  else s.onStd (fun u => { u with flight := some x })

/-- R29: a sample in STANDARDIZING. -/
def stdSample (f : SampleFrame) (s : State) : State :=
  match s.std.flight with
  | some x => stdAdvance (x.take f) s
  | none => s

/-! ### The whole way (R4) -/

/-- R4: the destination of a taken sample after position reckoning. -/
def deliver (f : SampleFrame) (s : State) : State :=
  match s.trav.state with
  | .scanning => scanSample f s
  | .standardizing => stdSample f s
  | .dwelling => dwellSample f s
  | .idle | .parking | .positioning | .turnWait | .fault => s

/-- R4: a sample record. -/
def sampleRecord (f : SampleFrame) (s : State) : State :=
  let s := frameSeen s
  if isRepeat f s then s else deliver f (reckon f (takeSeq f s))

end Sys2Proof.Machine
end

