-- ==== Sys2Proof/Machine/Requests.lean ====
section
/-! DEFINITION. What each request does when the engine takes it (R165), and the answer it is given: one definition for
each request of the index of chapter 9, and `carryOut`, which picks it. -/

namespace Sys2Proof.Machine

/-- The answer to a request that has been taken: its response code and fields, and for a READ PROFILE that gave a header
the segments that follow (R165, R97). -/
structure Answer where
  code     : RespCode
  body     : RespBody
  segments : List Segment
  transfer : Bool
  deriving DecidableEq, Repr

/-- An answer of a code and fields alone. -/
def Answer.of (code : RespCode) (body : RespBody) : Answer := ⟨code, body, [], false⟩

/-- DONE with no fields. -/
def Answer.done : Answer := .of .done .empty

/-- A refusal that carries no fields. -/
def Answer.refusal (code : RespCode) : Answer := .of code .empty

/-! ### Traverse requests (R11, R19, R20, R24, R25, R26) -/

/-- R11: BW_CURVE is loaded in the active setup or armed. -/
def curveReady (s : State) : Bool :=
  s.setup.active.bwCurve.isSome || s.setup.armed.any (fun e => decide (e.item = .bwCurve))

/-- The traverse intent set (R8). -/
def State.setIntent (s : State) (i : Intent) : State := s.onTrav (fun t => { t with intent := i })

/-- R11: the effect of SCAN START besides setting the intent. -/
def startEffect (s : State) : State :=
  match s.trav.state with
  | .idle => if s.permits then idleStart .turnF s else s
  | .dwelling => enterPositioning (nearerTurn s) (s.setDwell DwellAcc.empty)
  | _ => s

/-- R11: SCAN START. -/
def takeScanStart (s : State) : State × Answer :=
  if curveReady s then (startEffect (s.setIntent .scan), .done) else (s, .refusal .notReady)

/-- R19: the effect of SCAN STOP besides setting the intent. -/
def stopEffect (s : State) : State :=
  match s.trav.state with
  | .scanning => park (endScan .stopped s)
  | .turnWait | .positioning => park s
  | .dwelling => park (s.setDwell DwellAcc.empty)
  | _ => s

/-- R19: SCAN STOP. -/
def takeScanStop (s : State) : State × Answer := (stopEffect (s.setIntent .off), .done)

/-- R20: the effect of DWELL AT besides setting the intent and the dwell position, `same` being whether the dwell
position stays what it was. A break that the scan end's own application declared parks the head instead (log
entry 12). -/
def dwellEffect (same : Bool) (s : State) : State :=
  match s.trav.state with
  | .idle => if s.permits then idleStart .dwellPos s else s
  | .scanning =>
    let s := endScan .stopped s
    if s.permits then enterPositioning .dwellPos s else park s
  | .turnWait | .positioning => enterPositioning .dwellPos s
  | .dwelling => if same then s else enterPositioning .dwellPos (s.setDwell DwellAcc.empty)
  | _ => s

/-- R20: DWELL AT. -/
def takeDwellAt (p : BitVec 16) (s : State) : State × Answer :=
  let q := clampNat s.setup.active.turnF s.setup.active.turnD p.toNat
  let same := decide (q = s.trav.dwellPos)
  let s := dwellEffect same ((s.setIntent .dwell).onTrav (fun t => { t with dwellPos := q }))
  (s, if q = p.toNat then .done else .of .clamped (.position q))

/-- R25: the effect of STANDARDIZE NOW besides setting the two flags. -/
def standardizeEffect (s : State) : State :=
  match s.trav.state with
  | .idle => if s.trav.atPark then enterStandardizing s else park s
  | _ => s

/-- R25: STANDARDIZE NOW. -/
def takeStandardizeNow (s : State) : State × Answer :=
  (standardizeEffect (s.onTrav (fun t => { t with stdDue := true, stdAtPark := true })), .done)

/-- R24: CLEAR FAULT. -/
def takeClearFault (s : State) : State × Answer :=
  if s.trav.state = .fault ∧ s.link.up = true then (park (s.onTrav (fun t => { t with failCount := 0 })), .done)
  else (s, .refusal .wrongState)

/-- R26: a set's state, and its scan number when it is not FREE. -/
def setReport (a : AccSet) : SetState × Option Nat := (a.state, if a.state = .free then none else some a.scan)

/-- R26: the snapshot of READ STATUS. -/
def statusReport (s : State) : StatusReport :=
  { state := s.trav.state, intent := s.trav.intent, dwellPos := s.trav.dwellPos, pos := s.trav.pos,
    atPark := s.trav.atPark, stdDue := s.trav.stdDue, stdAtPark := s.trav.stdAtPark, linkUp := s.link.up,
    headPresent := s.link.headPresent, failCount := s.trav.failCount, sinceStd := s.trav.sinceStd,
    scanNumber := s.trav.scanNumber, cur := s.trav.cur, setX := setReport s.edge.x, setY := setReport s.edge.y,
    mapping := s.edge.mapping, breakState := s.mon.state, stdNumber := s.std.current.map StdRecord.number,
    stale := s.std.stale, generation := s.setup.generation, occupancy := s.ring.entries.length }

/-- R26: READ STATUS. -/
def takeReadStatus (s : State) : State × Answer := (s, .of .done (.status (statusReport s)))

/-! ### Standardization (R40) -/

/-- R40: what is reported of a standardization in flight. -/
def flightReport (x : StdFlight) : FlightReport :=
  ⟨x.phase, x.counting, x.counted, x.shutterError, x.samples, x.driftLimit⟩

/-- R40: the snapshot of READ STANDARDIZATION. -/
def stdReport (s : State) : StdReport :=
  { current := s.std.current, previous := s.std.previous, stale := s.std.stale, lastResult := s.std.lastResult,
    retry := s.std.retry, stdDue := s.trav.stdDue, stdAtPark := s.trav.stdAtPark, failCount := s.trav.failCount,
    nextNumber := s.std.nextNumber, flight := s.std.flight.map flightReport }

/-- R40: READ STANDARDIZATION. -/
def takeReadStandardization (s : State) : State × Answer := (s, .of .done (.standardization (stdReport s)))

/-! ### Profiles (R95 to R97) -/

/-- R97: how many items a segment holds at most. -/
def segmentSize : Nat := 128

/-- R97: a series cut into segments of 128 items, the last of those that remain. -/
def series {α : Type} (tag : BitVec 8) (kind : Kind) (base : Nat) (mk : List α → SegItems) (items : List α) :
    List Segment :=
  (List.range ((items.length + (segmentSize - 1)) / segmentSize)).map fun i =>
    ⟨tag, kind, base + segmentSize * i, false, mk ((items.drop (segmentSize * i)).take segmentSize)⟩

/-- R97: the last segment of a transfer carries the mark. -/
def markLast : List Segment → List Segment
  | [] => []
  | [g] => [{ g with final := true }]
  | g :: rest => g :: markLast rest

/-- The kinds a mask names, in the order BW, DW, MO, CA (11.2). -/
def maskKinds (mask : BitVec 8) : List Kind := [Kind.bw, .dw, .mo, .ca].filter (fun k => mask.getLsbD k.code)

/-- The cells of a kind from the first to the last granted bin (R97). -/
def grantedCells (e : RingEntry) (k : Kind) (first last : Nat) : List Cell :=
  ((e.body.get k).drop first).take (last + 1 - first)

/-- R97 row 1: the RAW series of one kind. -/
def rawSeries (tag : BitVec 8) (e : RingEntry) (first last : Nat) (k : Kind) : List Segment :=
  series tag k first SegItems.raw ((grantedCells e k first last).map (fun c => (c.raw, c.rawState)))

/-- R97 row 2: the FILTERED series of one kind. -/
def filteredSeries (tag : BitVec 8) (e : RingEntry) (first last : Nat) (k : Kind) : List Segment :=
  series tag k first SegItems.filtered ((grantedCells e k first last).map Cell.filt)

/-- R97 rows 3 and 4: the zones and the boundaries. -/
def zoneSeries (tag : BitVec 8) (e : RingEntry) : List Segment :=
  match e.zones with
  | some z => series tag z.kind 0 SegItems.zones z.zones ++ series tag z.kind 0 SegItems.bounds z.bounds
  | none => []

/-- R97: the segments of a transfer in their order. -/
def transferSegments (tag : BitVec 8) (e : RingEntry) (kinds forms : BitVec 8) (first last : Nat) : List Segment :=
  markLast
    ((if forms.getLsbD 0 then (maskKinds kinds).flatMap (rawSeries tag e first last) else []) ++
      (if forms.getLsbD 1 then (maskKinds kinds).flatMap (filteredSeries tag e first last) else []) ++
      (if forms.getLsbD 2 then zoneSeries tag e else []))

/-- R96: the header of a transfer. -/
def transferHeader (e : RingEntry) (first last segments : Nat) : TransferHeader :=
  { header := e.header, zoneKind := e.zones.map ZoneProfile.kind,
    zoneCount := (e.zones.map (fun z => z.zones.length)).getD 0, first := first, last := last, segments := segments }

/-- R96 case 1, R187: a READ PROFILE that is MALFORMED: an empty set, a mask bit above a set's last member, or a first
bin greater than the last. -/
def profileMalformed (kinds forms : BitVec 8) (first last : BitVec 16) : Bool :=
  decide (kinds = 0) || decide (16 ≤ kinds.toNat) || decide (forms = 0) || decide (8 ≤ forms.toNat) ||
    decide (last.toNat < first.toNat)

/-- R96 case 3: the entry a selector names among those not marked for removal. -/
def selectEntry (l : List RingEntry) : ScanSelector → Option RingEntry
  | .latest => l.getLast?
  | .number n => l.find? (fun e => decide (e.header.scan = n.toNat))

/-- R96 case 4: the chosen entry is pinned and its header answered. -/
def grantProfile (p : PortId) (tag : BitVec 8) (e : RingEntry) (kinds forms : BitVec 8) (first last : Nat)
    (s : State) : State × Answer :=
  let top := e.header.binCount - 1
  let lo := min first top
  let hi := min last top
  let segs := transferSegments tag e kinds forms lo hi
  ({ s with ring := { s.ring with pins := s.ring.pins.set p (some e.header.scan) } },
    { code := if lo = first ∧ hi = last then .done else .clamped,
      body := .header (transferHeader e lo hi segs.length), segments := segs, transfer := true })

/-- R96: READ PROFILE. -/
def takeReadProfile (p : PortId) (tag : BitVec 8) (sel : ScanSelector) (kinds forms : BitVec 8)
    (first last : BitVec 16) (s : State) : State × Answer :=
  let held := s.ring.entries.filter (fun e => !e.marked)
  if profileMalformed kinds forms first last then (s, .refusal .malformed)
  else if held.isEmpty then (s, .refusal .noData)
  else match selectEntry held sel with
    | none => (s, .refusal .notHeld)
    | some e => grantProfile p tag e kinds forms first.toNat last.toNat s

/-- R95: FLUSH PROFILES. -/
def takeFlushProfiles (s : State) : State × Answer := ({ s with ring := s.ring.flushed }, .done)

/-! ### Break requests (R121, R131, R135) -/

/-- R121: RESUME SHEET. -/
def takeResumeSheet (s : State) : State × Answer :=
  if s.permits then (s, .refusal .wrongState)
  else if s.asserted .brk then (s, .refusal .lineActive)
  else (traverseRecovered (enterRecovery .resume s), .done)

/-- R135: what is reported of one line. -/
def lineReport (l : Line) (s : State) : LineReport :=
  ⟨s.setup.active.enabled l, (s.mon.line l).level, (s.mon.line l).debounced, (s.mon.line l).timer.isSome⟩

/-- R135: the snapshot of READ ALARMS. -/
def alarmReport (s : State) : AlarmReport :=
  { state := s.mon.state, recovery := s.mon.recovery, refWidth := s.mon.refWidth, stdInBreak := s.mon.stdInBreak,
    brk := lineReport .brk s, tail := lineReport .tail s, output := s.mon.output, nextId := s.alarms.nextId,
    records := s.alarms.records }

/-- R135: READ ALARMS. -/
def takeReadAlarms (s : State) : State × Answer := (s, .of .done (.alarms (alarmReport s)))

/-- R131: a record acknowledged by a port. -/
def Alarm.ack (p : PortId) (r : Alarm) : Alarm := { r with acked := r.acked.set p true }

/-- R131: ACKNOWLEDGE ALARM. DESIGN CHOICE: R127 says that no two records share an id, yet one can outlast 65535 raises;
the oldest record of a shared id decides, and an acknowledgement that is DONE acts on every record of it (log entry 35).
-/
def takeAcknowledge (p : PortId) (id : BitVec 16) (s : State) : State × Answer :=
  match s.alarms.records.find? (fun r => decide (r.id = id.toNat)) with
  | none => (s, .refusal .unknownId)
  | some r =>
    if r.needed.get p then
      (s.onAlarms (fun l => removeCovered id.toNat (l.map (fun a => if a.id = id.toNat then a.ack p else a))), .done)
    else (s, .refusal .notNeeded)

/-! ### Setup requests (R141 to R144) -/

/-- R141: a value R138 gave, staged by a port. -/
def stage (p : PortId) (i : Item) (v : SetupValue) (clamped : Bool) (s : State) : State × Answer :=
  let l := s.setup.staging.get p
  if stagingFull l i then (s, .of .full (.stagingCount l.length))
  else (s.setStaging p (stageIn l i v), if clamped then .of .clamped (.stagedValue v) else .done)

/-- R141: WRITE SETUP. -/
def takeWriteSetup (p : PortId) (item : BitVec 8) (value : Offered) (s : State) : State × Answer :=
  match Item.ofId item.toNat with
  | none => (s, .refusal .malformed)
  | some i =>
    match checkValue i value with
    | .malformed => (s, .refusal .malformed)
    | .badValue => (s, .refusal .badValue)
    | .staged v clamped => stage p i v clamped s

/-- R143: the answer of READ SETUP for an item in one of the three copies. -/
def readItem (p : PortId) (i : Item) (copy : BitVec 8) (s : State) : Answer :=
  if copy = 0 then .of .done (.activeItem i (s.setup.active.get i) s.setup.generation)
  else if copy = 1 then
    match s.setup.armed.find? (fun e => decide (e.item = i)) with
    | some e => .of .done (.armedItem e.value e.target e.port)
    | none => .of .noData (.itemId i)
  else if copy = 2 then
    match (s.setup.staging.get p).find? (fun e => decide (e.item = i)) with
    | some e => .of .done (.stagedValue e.value)
    | none => .of .noData (.itemId i)
  else .refusal .malformed

/-- R143: READ SETUP. -/
def takeReadSetup (p : PortId) (item copy : BitVec 8) (s : State) : State × Answer :=
  match Item.ofId item.toNat with
  | none => (s, .refusal .malformed)
  | some i => (s, readItem p i copy s)

/-- R142: DISCARD STAGING. -/
def takeDiscardStaging (p : PortId) (s : State) : State × Answer := (s.setStaging p [], .done)

/-- R144 case 4: a commit that is taken, with the effect of the line enables it applies (R114, log entry 8). -/
def commit (p : PortId) (target : Target) (s : State) : State :=
  let old := s.setup.active
  enableAtCommit .tail old (enableAtCommit .brk old (commitTaken p target s))

/-- R144: COMMIT SETUP. -/
def takeCommitSetup (p : PortId) (target : Target) (s : State) : State × Answer :=
  let l := s.setup.staging.get p
  let once := (l.filter (appliesAtOnce target)).length
  if l.isEmpty then (s, .of .done (.committed 0 0))
  else match firstFailing (prospective s.setup l) with
    | some n => (s, .of .inconsistent (.offender n (offendingItem n l)))
    | none =>
      if tooLate s target then (s, .refusal .tooLate)
      else (commit p target s, .of .done (.committed once (l.length - once)))

/-! ### Ports and tallies (R172, R182 to R184) -/

/-- R172, R187: SUBSCRIBE. -/
def takeSubscribe (p : PortId) (mask : BitVec 16) (s : State) : State × Answer :=
  if 1024 ≤ mask.toNat then (s, .refusal .malformed)
  else (s.onPort p (fun q => { q with subs := mask.setWidth 10 }), .of .done (.subscription (mask.setWidth 10)))

/-- The tallies in the order of their ids 1..14 (R179). -/
def TallyId.all : List TallyId :=
  [.scansComplete, .scansBroken, .scansStopped, .scansFaulted, .breaks, .holes, .edgeJumps, .positionSlips,
   .stdFailures, .samplesRejected, .samplesMissing, .binSaturations, .noticesDropped, .framesBad]

/-- The id of a tally (R179). -/
def TallyId.id (t : TallyId) : Nat := all.idxOf t + 1

/-- R182: the tallies a mask names, ascending. -/
def maskTallies (mask : BitVec 16) : List TallyId := TallyId.all.filter (fun t => mask.getLsbD (t.id - 1))

/-- R182 step 1: one tally captured. -/
def captureTally (clear : Bool) (s : State) (id : TallyId) : TallyRead :=
  let t := s.tallies.get id
  let frozen := t.frozen s.setup.active.tallyMode
  ⟨id, t.value, t.half, frozen, clear || frozen⟩

/-- R182 steps 2 and 3, R183: one tally after the read. -/
def readTally (mode : TallyMode) (clear : Bool) (t : Tally) : Tally :=
  ⟨if clear || t.frozen mode then 0 else t.value, false⟩

/-- R182: READ TALLIES. -/
def takeReadTallies (mask : BitVec 16) (clear : Bool) (s : State) : State × Answer :=
  let ids := maskTallies mask
  let mode := s.setup.active.tallyMode
  if mask = 0 ∨ 16384 ≤ mask.toNat then (s, .refusal .malformed)
  else
    ({ s with tallies := ids.foldl (fun b id => b.set id (readTally mode clear (b.get id))) s.tallies },
      .of .done (.tallies mode (ids.map (captureTally clear s))))

/-- R184: CLEAR TALLIES. -/
def takeClearTallies (s : State) : State × Answer := ({ s with tallies := .zero }, .done)

/-! ### Taking a request (R165) -/

/-- R165 steps 1 and 2: a request carried out, with its answer. -/
def carryOut (p : PortId) (tag : BitVec 8) (r : Request) (s : State) : State × Answer :=
  match r with
  | .scanStart => takeScanStart s
  | .scanStop => takeScanStop s
  | .dwellAt q => takeDwellAt q s
  | .standardizeNow => takeStandardizeNow s
  | .clearFault => takeClearFault s
  | .readStatus => takeReadStatus s
  | .readStandardization => takeReadStandardization s
  | .readProfile sel kinds forms first last => takeReadProfile p tag sel kinds forms first last s
  | .flushProfiles => takeFlushProfiles s
  | .resumeSheet => takeResumeSheet s
  | .readAlarms => takeReadAlarms s
  | .acknowledgeAlarm id => takeAcknowledge p id s
  | .writeSetup item value => takeWriteSetup p item value s
  | .readSetup item copy => takeReadSetup p item copy s
  | .discardStaging => takeDiscardStaging p s
  | .commitSetup target => takeCommitSetup p target s
  | .subscribe mask => takeSubscribe p mask s
  | .readTallies mask clear => takeReadTallies mask clear s
  | .clearTallies => takeClearTallies s
  | .malformed _ => (s, .refusal .malformed)

end Sys2Proof.Machine
end

