-- ==== Sys2Proof/Machine/Ports.lean ====
section
/-! DEFINITION. The service ports (chapter 9): arrivals, the engine, both holds, the end of a frame's sending, and the
port reset. -/

namespace Sys2Proof.Machine

/-! ### The engine (R164, R165) -/

/-- R165: the request code an answer carries; a free value for a payload that has no byte to echo (log entry 10). -/
def answerCode (r : Request) (free : Nat) : BitVec 8 :=
  match r with
  | .malformed none => Config.emptyRequestCode free
  | r => r.code

/-- The free values an answer uses up (log entry 10). -/
def codeUses (r : Request) : Nat :=
  match r with
  | .malformed none => 1
  | _ => 0

/-- R164: the hold is released when the engine takes a request and the occupancy falls to 1 or below. -/
def Port.releaseHold (q : Port) : Port :=
  if q.holdSent && decide (q.inbound.length ≤ 1) then
    { q with holdsOut := q.holdsOut ++ [0], holdSent := false, partTimer := none }
  else q

/-- R165: the frames that answer a request. -/
def answerJob (tag code : BitVec 8) (a : Answer) : Job :=
  { frames := .response ⟨tag, code, true, a.code, a.body⟩ :: a.segments.map TxFrame.segment, transfer := a.transfer }

/-- R165: the engine of a port takes a request, which is no longer in the inbound queue. -/
def takeRequest (p : PortId) (r : Queued) (s : State) : State :=
  let s := s.onPort p Port.releaseHold
  let out := carryOut p r.tag r.req s
  let code := answerCode r.req out.1.freeCount
  { (out.1.onPort p (fun q => { q with engine := some (answerJob r.tag code out.2) })) with
    freeCount := out.1.freeCount + codeUses r.req }

/-- R165: an idle engine takes the head of the inbound queue. -/
def pump (p : PortId) (s : State) : State :=
  match (s.ports.get p).engine, (s.ports.get p).inbound with
  | none, r :: rest => takeRequest p r (s.onPort p (fun q => { q with inbound := rest }))
  | _, _ => s

/-! ### Arrivals (R163, R164) -/

/-- R164: a hold is sent at an arrival that brings the occupancy to HOLD_THRESHOLD while the flag is clear. -/
def Port.holdAtArrival (a : Setup) (q : Port) : Port :=
  if !q.holdSent && decide (a.holdThreshold ≤ q.inbound.length) then
    { q with holdsOut := q.holdsOut ++ [a.holdTime], holdSent := true, partTimer := some a.holdTime }
  else q

/-- R163: a request added at the tail of the inbound queue. -/
def enqueue (p : PortId) (r : Queued) (s : State) : State :=
  s.onPort p (fun q => ({ q with inbound := q.inbound ++ [r] } : Port).holdAtArrival s.setup.active)

/-- R163: a request refused FULL; discarded when four answers wait. -/
def refuseFull (p : PortId) (r : Queued) (s : State) : State :=
  if 4 ≤ (s.ports.get p).refusals.length then s
  else
    let answer : Response :=
      ⟨r.tag, answerCode r.req s.freeCount, false, .full, .occupancy (s.ports.get p).inbound.length⟩
    { (s.onPort p (fun q => { q with refusals := q.refusals ++ [answer] })) with
      freeCount := s.freeCount + codeUses r.req }

/-- R163: an arrival at an UP port. -/
def arrive (p : PortId) (r : Queued) (s : State) : State :=
  let q := s.ports.get p
  if q.inbound = [] ∧ q.engine = none then takeRequest p r s
  else if q.inbound.length < 8 then pump p (enqueue p r s)
  else pump p (refuseFull p r s)

/-- R160, R163: a REQUEST frame at a port; none arrives while the link is DOWN. -/
def requestArrives (p : PortId) (r : Queued) (s : State) : State :=
  if (s.ports.get p).linkUp then settle (arrive p r s) else s

/-! ### Holds (R164, R166) -/

/-- R166: a HOLD frame from the master; `waits` says that an expiry of the port's master hold timer waits in the queue. R177:
where the HOLD restarts the timer, that expiry is overtaken. -/
def Port.masterHolds (time : Nat) (waits : Bool) (q : Port) : Port :=
  { q with masterHold := if time = 0 then none else some time,
           overtaken := q.overtaken || (waits && q.masterHold.isSome && decide (time ≠ 0)) }

/-- R166: the expiry of the master hold timer. R177: one that a HOLD has overtaken leaves the hold in force. -/
def Port.masterExpires (q : Port) : Port :=
  if q.overtaken then { q with overtaken := false } else { q with masterHold := none }

/-- R164: the expiry of the part hold timer. -/
def Port.renewHold (a : Setup) (q : Port) : Port :=
  if a.holdThreshold ≤ q.inbound.length then
    { q with holdsOut := q.holdsOut ++ [a.holdTime], partTimer := some a.holdTime }
  else { q with holdSent := false, partTimer := none }

/-! ### The end of a frame's sending (R167, R171, R98) -/

/-- R167: a port whose engine frame has been sent: the engine is idle after the last one. -/
def Port.engineSent (q : Port) : Port :=
  match q.engine with
  | some j => { q with engine := if j.frames.drop 1 = [] then none else some { j with frames := j.frames.drop 1 } }
  | none => q

/-- R98: the frame just sent is the last of a transfer. -/
def Port.transferEnds (q : Port) : Bool :=
  match q.engine with
  | some j => j.transfer && decide (j.frames.drop 1 = [])
  | none => false

/-- R171: a notice has been sent: the marker is cleared by a marked frame with no drop since its sending began. -/
def Port.noticeSent (x : Sending) (q : Port) : Port :=
  let marked := match x.frame with
    | .notice _ m => m
    | _ => false
  { q with notices := q.notices.drop 1, overrun := q.overrun && !(marked && !x.dropped) }

/-- R167: the frame leaves the list it came from. -/
def Port.sent (x : Sending) (q : Port) : Port :=
  match x.source with
  | .resetAnswer => { q with resetAnswer := none }
  | .partHold => { q with holdsOut := q.holdsOut.drop 1 }
  | .refusal => { q with refusals := q.refusals.drop 1 }
  | .engine => q.engineSent
  | .notice => q.noticeSent x
  | .orphan => q

/-- R94, R98: the port's pin is released. -/
def releasePin (p : PortId) (s : State) : State := { s with ring := s.ring.release p }

/-- R167, R98, R165: the end of a frame's sending, with the engine taking its next request. -/
def frameDone (p : PortId) (x : Sending) (s : State) : State :=
  let ends := decide (x.source = .engine) && (s.ports.get p).transferEnds
  let s := s.onPort p (fun q => { (q.sent x) with sending := none })
  pump p (if ends then releasePin p s else s)

/-! ### Port reset (R173, R174) -/

/-- R173: what a PORT_RESET frame of this tag makes of a frame in sending. A frame begun before the reset is finished and
belongs to no list any more. A reset answer not yet sent stays the one answer of the port and takes the new tag (log
entry 17). -/
def Sending.overtaken (tag : BitVec 8) (x : Sending) : Sending :=
  if x.source = .resetAnswer then { x with frame := .portReset tag } else { x with source := .orphan }

/-- R174 steps 1 to 5: the port's own state after a reset. -/
def Port.resetState (answer : Option (BitVec 8)) (sending : Option Sending) (q : Port) : Port :=
  { (Port.afterReset q.linkUp) with resetAnswer := answer, sending := sending }

/-- R134: a port removed from a record's sets. -/
def Alarm.without (p : PortId) (r : Alarm) : Alarm :=
  { r with needed := r.needed.set p false, acked := r.acked.set p false }

/-- R134: a port removed from every record, and the records that are then covered removed. -/
def sweepAlarms (p : PortId) (l : List Alarm) : List Alarm :=
  (l.map (Alarm.without p)).filter (fun r => !r.covered)

/-- R174: a port reset. -/
def resetPort (p : PortId) (answer : Option (BitVec 8)) (sending : Option Sending) (s : State) : State :=
  let s := releasePin p (s.onPort p (Port.resetState answer sending))
  (s.setStaging p []).onAlarms (sweepAlarms p)

end Sys2Proof.Machine
end

