-- ==== Sys2Proof/Machine/Events.lean ====
section
/-! DEFINITION. The meanings of the commands that come from the head, the timers, the machine lines, the finalizer and
the port links: one definition for each row of the opcode table. A command that cannot come in the state it finds leaves
the state as it is (log entry 4). -/

namespace Sys2Proof.Machine

/-- What a command answers: the next state. -/
abbrev Answered := Host.Outcome State Fault Refusal

/-- DEVICE_RESET (R7, R158, R175): every block at its reset value, the lines as they stand; the model's own fields are
kept. -/
def execDeviceReset (s : State) : Answered :=
  .next { State.afterReset s.mon.brk.level s.mon.tail.level
            ⟨s.ports.sp0.linkUp, s.ports.sp1.linkUp, s.ports.sp2.linkUp⟩ with
          carriageTx := s.carriageTx, freeCount := s.freeCount, pending := s.pending }

/-- SAMPLE (R4). -/
def execSample (f : SampleFrame) (s : State) : Answered :=
  if isRepeat f s then .next (frameSeen s) else .next (settle (sampleRecord f s))

/-- R2: an ARRIVED is taken. -/
def takesArrived (number : BitVec 8) (s : State) : Bool :=
  decide (s.link.lastMotion = some number) &&
    (decide (s.trav.state = .parking) || decide (s.trav.state = .positioning) || decide (s.trav.state = .scanning))

/-- R5, R10: what every ARRIVED that is taken does first. -/
def noteArrival (pos : BitVec 16) (s : State) : State :=
  s.onTrav (fun t =>
    { t with moveTimer := none,
             pos := if s.setup.active.positionMode = .encoder then encoderPos pos else t.pos })

/-- R12, R14, R16: the arrival a traverse state calls for. -/
def arrival (s : State) : State :=
  match s.trav.state with
  | .parking => arrivalAtPark s
  | .positioning => arrivalAtTarget s
  | .scanning => scanEndEvent s
  | _ => s

/-- ARRIVED (R2). -/
def execArrived (number : BitVec 8) (pos : BitVec 16) (s : State) : Answered :=
  if takesArrived number s then .next (settle (arrival (noteArrival pos (frameSeen s)))) else .next (frameSeen s)

/-- R2: a HEAD_STATUS that is a head fault. -/
def statusFaults (flags : BitVec 8) : Bool := !presentFlag flags || faultFlag flags

/-- HEAD_STATUS (R2). -/
def execHeadStatus (flags : BitVec 8) (s : State) : Answered :=
  let s := (frameSeen s).onLink (fun l => { l with headPresent := presentFlag flags })
  .next (if statusFaults flags then settle (headFault s) else s)

/-- CARRIAGE_FRAME_DISCARDED (R3): as if it had not arrived. -/
def execCarriageFrameDiscarded (s : State) : Answered := .next s

/-- CARRIAGE_FRAME_UNKNOWN_TYPE (R188). -/
def execCarriageFrameUnknownType (s : State) : Answered := .next (frameSeen s)

/-- R3: the link goes DOWN. -/
def linkDown (s : State) : State :=
  s.onLink (fun l => { l with up := false, silence := none, lastSeq := none, headPresent := false })

/-- SILENCE_TIMER_EXPIRY (R3). -/
def execSilenceTimerExpiry (s : State) : Answered :=
  if s.link.silence.isNone then .next s
  else
    let s := linkDown s
    if s.trav.state = .idle then .next (s.onTrav (fun t => { t with atPark := false, stdDue := true }))
    else .next (settle (headFault s))

/-- MOVE_TIMER_EXPIRY (R10). -/
def execMoveTimerExpiry (s : State) : Answered :=
  if s.trav.moveTimer.isNone then .next s
  else .next (settle (headFault (s.onTrav (fun t => { t with moveTimer := none }))))

/-- R114, R115: a line's new level. -/
def lineChange (l : Line) (level : Bool) (s : State) : State :=
  let s := s.onLine l (fun v => { v with level := level })
  if !s.setup.active.enabled l then s
  else if edgeAtOnce l s then lineEdge l (takeLevel l s)
  else compareLevel l s

/-- LINE_LEVEL_CHANGE (R115). -/
def execLineLevelChange (l : Line) (level : Bool) (s : State) : Answered :=
  if (s.mon.line l).level = level then .next s else .next (settle (lineChange l level s))

/-- R115: the debounced state takes the line's level; the change is the edge. -/
def debounced (l : Line) (s : State) : State :=
  if (s.mon.line l).level = (s.mon.line l).debounced then takeLevel l s else lineEdge l (takeLevel l s)

/-- LINE_DEBOUNCE_EXPIRY (R115). -/
def execLineDebounceExpiry (l : Line) (s : State) : Answered :=
  if (s.mon.line l).timer.isNone then .next s else .next (settle (debounced l s))

/-- R80 step 8: the set of an ended finalization is FREE, and a WAITING set becomes FINALIZING. -/
def passOn (i : SetId) (s : State) : State :=
  let s := s.onSet i (fun _ => AccSet.free)
  if (s.edge.get i.other).state = .waiting then s.onSet i.other (fun a => { a with state := .finalizing }) else s

/-- R18: the direction of the scan that starts from TURN_WAIT. -/
def turnWaitDir (s : State) : Dir := if s.trav.target = some .turnD then .rev else .fwd

/-- R80: the finalized event of set i. -/
def finalizeSet (i : SetId) (s : State) : State :=
  let e := formEntry (s.edge.get i) s.ring s.mon.state
  let s := passOn i { s with ring := s.ring.add e }
  let s := if s.trav.state = .turnWait then startScan (turnWaitDir s) s else s
  notify (profileNotice e) s

/-- FINALIZED (R80). -/
def execFinalized (s : State) : Answered :=
  match s.edge.finalizing with
  | some i => .next (settle (finalizeSet i s))
  | none => .next s

/-- An expiry of the port's master hold timer waits in the queue (R177; log entry 34). -/
def expiryWaits (p : PortId) (s : State) : Bool := s.pending.any fun c => decide (c = .masterHoldExpiry p)

/-- HOLD (R166, R177). -/
def execHold (p : PortId) (time : BitVec 16) (s : State) : Answered :=
  if (s.ports.get p).linkUp then .next (settle (s.onPort p (Port.masterHolds time.toNat (expiryWaits p s)))) else .next s

/-- MASTER_HOLD_EXPIRY (R166, R177). -/
def execMasterHoldExpiry (p : PortId) (s : State) : Answered :=
  let q := s.ports.get p
  if q.masterHold.isNone && !q.overtaken then .next s else .next (settle (s.onPort p Port.masterExpires))

/-- PART_HOLD_EXPIRY (R164). -/
def execPartHoldExpiry (p : PortId) (s : State) : Answered :=
  if (s.ports.get p).partTimer.isNone then .next s
  else .next (settle (s.onPort p (Port.renewHold s.setup.active)))

/-- PORT_RESET (R173). -/
def execPortReset (p : PortId) (tag : BitVec 8) (s : State) : Answered :=
  if (s.ports.get p).linkUp then
    .next (settle (resetPort p (some tag) ((s.ports.get p).sending.map (Sending.overtaken tag)) s))
  else .next s

/-- SERVICE_FRAME_DISCARDED (R162). -/
def execServiceFrameDiscarded (p : PortId) (s : State) : Answered :=
  if (s.ports.get p).linkUp then .next (settle (count .framesBad 1 s)) else .next s

/-- LINK_LINE_FALL (R160, R174): the frame being sent is lost. -/
def execLinkLineFall (p : PortId) (s : State) : Answered :=
  if (s.ports.get p).linkUp then
    .next (resetPort p none none (s.onPort p (fun q => { q with linkUp := false })))
  else .next s

/-- LINK_LINE_RISE (R160). -/
def execLinkLineRise (p : PortId) (s : State) : Answered :=
  if (s.ports.get p).linkUp then .next s
  else .next (settle (s.onPort p (fun q => { q with linkUp := true })))

/-- FRAME_SENT (R167). -/
def execFrameSent (p : PortId) (s : State) : Answered :=
  match (s.ports.get p).sending with
  | some x => .next (settle (frameDone p x s))
  | none => .next s

end Sys2Proof.Machine
end

