-- ==== Sys2Proof/Machine/RequestCommands.lean ====
section
/-! DEFINITION. The meanings of the rows that are requests: the request arrives at its port (R163), is taken by the
engine at once, waits in the inbound queue or is refused FULL, and does what its rule says when it is taken (log
entry 15). -/

namespace Sys2Proof.Machine

/-- REQUEST_ARRIVAL (R163): a REQUEST frame with this tag and payload. -/
def execRequestArrival (p : PortId) (tag : BitVec 8) (payload : List Byte) (s : State) : Answered :=
  .next (requestArrives p ⟨tag, parseRequest payload⟩ s)

/-- R165: the payload is answered MALFORMED whatever it holds. -/
def malformedOf (payload : List Byte) : Request := .malformed payload.head?

/-- REQUEST_MALFORMED (R165): a REQUEST frame whose payload does not parse. -/
def execRequestMalformed (p : PortId) (tag : BitVec 8) (payload : List Byte) (s : State) : Answered :=
  .next (requestArrives p ⟨tag, malformedOf payload⟩ s)

/-- SCAN_START_REQUEST (R11). -/
def execScanStartRequest (p : PortId) (tag : BitVec 8) (s : State) : Answered :=
  .next (requestArrives p ⟨tag, .scanStart⟩ s)

/-- SCAN_STOP (R19). -/
def execScanStop (p : PortId) (tag : BitVec 8) (s : State) : Answered :=
  .next (requestArrives p ⟨tag, .scanStop⟩ s)

/-- DWELL_AT (R20). -/
def execDwellAt (p : PortId) (tag : BitVec 8) (q : BitVec 16) (s : State) : Answered :=
  .next (requestArrives p ⟨tag, .dwellAt q⟩ s)

/-- STANDARDIZE_NOW (R25). -/
def execStandardizeNow (p : PortId) (tag : BitVec 8) (s : State) : Answered :=
  .next (requestArrives p ⟨tag, .standardizeNow⟩ s)

/-- CLEAR_FAULT (R24). -/
def execClearFault (p : PortId) (tag : BitVec 8) (s : State) : Answered :=
  .next (requestArrives p ⟨tag, .clearFault⟩ s)

/-- READ_STATUS (R26). -/
def execReadStatus (p : PortId) (tag : BitVec 8) (s : State) : Answered :=
  .next (requestArrives p ⟨tag, .readStatus⟩ s)

/-- READ_STANDARDIZATION (R40). -/
def execReadStandardization (p : PortId) (tag : BitVec 8) (s : State) : Answered :=
  .next (requestArrives p ⟨tag, .readStandardization⟩ s)

/-- READ_PROFILE (R96). -/
def execReadProfile (p : PortId) (tag : BitVec 8) (sel : ScanSelector) (kinds forms : BitVec 8) (first last : BitVec 16)
    (s : State) : Answered :=
  .next (requestArrives p ⟨tag, .readProfile sel kinds forms first last⟩ s)

/-- FLUSH_PROFILES (R95). -/
def execFlushProfiles (p : PortId) (tag : BitVec 8) (s : State) : Answered :=
  .next (requestArrives p ⟨tag, .flushProfiles⟩ s)

/-- RESUME_SHEET (R121). -/
def execResumeSheet (p : PortId) (tag : BitVec 8) (s : State) : Answered :=
  .next (requestArrives p ⟨tag, .resumeSheet⟩ s)

/-- READ_ALARMS (R135). -/
def execReadAlarms (p : PortId) (tag : BitVec 8) (s : State) : Answered :=
  .next (requestArrives p ⟨tag, .readAlarms⟩ s)

/-- ACKNOWLEDGE_ALARM (R131). -/
def execAcknowledgeAlarm (p : PortId) (tag : BitVec 8) (id : BitVec 16) (s : State) : Answered :=
  .next (requestArrives p ⟨tag, .acknowledgeAlarm id⟩ s)

/-- WRITE_SETUP (R141). -/
def execWriteSetup (p : PortId) (tag : BitVec 8) (item : BitVec 8) (value : Offered) (s : State) : Answered :=
  .next (requestArrives p ⟨tag, .writeSetup item value⟩ s)

/-- READ_SETUP (R143). -/
def execReadSetup (p : PortId) (tag : BitVec 8) (item copy : BitVec 8) (s : State) : Answered :=
  .next (requestArrives p ⟨tag, .readSetup item copy⟩ s)

/-- DISCARD_STAGING (R142). -/
def execDiscardStaging (p : PortId) (tag : BitVec 8) (s : State) : Answered :=
  .next (requestArrives p ⟨tag, .discardStaging⟩ s)

/-- COMMIT_SETUP (R144). -/
def execCommitSetup (p : PortId) (tag : BitVec 8) (target : Target) (s : State) : Answered :=
  .next (requestArrives p ⟨tag, .commitSetup target⟩ s)

/-- SUBSCRIBE (R172). -/
def execSubscribe (p : PortId) (tag : BitVec 8) (mask : BitVec 16) (s : State) : Answered :=
  .next (requestArrives p ⟨tag, .subscribe mask⟩ s)

/-- READ_TALLIES (R182). -/
def execReadTallies (p : PortId) (tag : BitVec 8) (mask : BitVec 16) (clear : Bool) (s : State) : Answered :=
  .next (requestArrives p ⟨tag, .readTallies mask clear⟩ s)

/-- CLEAR_TALLIES (R184). -/
def execClearTallies (p : PortId) (tag : BitVec 8) (s : State) : Answered :=
  .next (requestArrives p ⟨tag, .clearTallies⟩ s)

end Sys2Proof.Machine
end

