-- ==== Sys2Proof/Machine/Dispatch.lean ====
section
/-! DEFINITION. The meaning of each command: one arm for each constructor of `Instr`. -/

namespace Sys2Proof.Machine

/-- What a command does to everything but the queue of waiting commands. -/
def exec (i : Instr) (s : State) : Host.Outcome State Fault Refusal :=
  match i with
  | .deviceReset => Sys2Proof.Machine.execDeviceReset s
  | .sample f => Sys2Proof.Machine.execSample f s
  | .arrived number pos => Sys2Proof.Machine.execArrived number pos s
  | .headStatus flags => Sys2Proof.Machine.execHeadStatus flags s
  | .carriageFrameDiscarded => Sys2Proof.Machine.execCarriageFrameDiscarded s
  | .carriageFrameUnknownType => Sys2Proof.Machine.execCarriageFrameUnknownType s
  | .silenceTimerExpiry => Sys2Proof.Machine.execSilenceTimerExpiry s
  | .moveTimerExpiry => Sys2Proof.Machine.execMoveTimerExpiry s
  | .lineLevelChange line level => Sys2Proof.Machine.execLineLevelChange line level s
  | .lineDebounceExpiry line => Sys2Proof.Machine.execLineDebounceExpiry line s
  | .finalized => Sys2Proof.Machine.execFinalized s
  | .requestArrival port tag payload => Sys2Proof.Machine.execRequestArrival port tag payload s
  | .requestMalformed port tag payload => Sys2Proof.Machine.execRequestMalformed port tag payload s
  | .scanStartRequest port tag => Sys2Proof.Machine.execScanStartRequest port tag s
  | .scanStop port tag => Sys2Proof.Machine.execScanStop port tag s
  | .dwellAt port tag p => Sys2Proof.Machine.execDwellAt port tag p s
  | .standardizeNow port tag => Sys2Proof.Machine.execStandardizeNow port tag s
  | .clearFault port tag => Sys2Proof.Machine.execClearFault port tag s
  | .readStatus port tag => Sys2Proof.Machine.execReadStatus port tag s
  | .readStandardization port tag => Sys2Proof.Machine.execReadStandardization port tag s
  | .readProfile port tag sel kinds forms first last => Sys2Proof.Machine.execReadProfile port tag sel kinds forms first last s
  | .flushProfiles port tag => Sys2Proof.Machine.execFlushProfiles port tag s
  | .resumeSheet port tag => Sys2Proof.Machine.execResumeSheet port tag s
  | .readAlarms port tag => Sys2Proof.Machine.execReadAlarms port tag s
  | .acknowledgeAlarm port tag id => Sys2Proof.Machine.execAcknowledgeAlarm port tag id s
  | .writeSetup port tag item value => Sys2Proof.Machine.execWriteSetup port tag item value s
  | .readSetup port tag item copy => Sys2Proof.Machine.execReadSetup port tag item copy s
  | .discardStaging port tag => Sys2Proof.Machine.execDiscardStaging port tag s
  | .commitSetup port tag target => Sys2Proof.Machine.execCommitSetup port tag target s
  | .subscribe port tag mask => Sys2Proof.Machine.execSubscribe port tag mask s
  | .readTallies port tag mask clear => Sys2Proof.Machine.execReadTallies port tag mask clear s
  | .clearTallies port tag => Sys2Proof.Machine.execClearTallies port tag s
  | .hold port time => Sys2Proof.Machine.execHold port time s
  | .masterHoldExpiry port => Sys2Proof.Machine.execMasterHoldExpiry port s
  | .partHoldExpiry port => Sys2Proof.Machine.execPartHoldExpiry port s
  | .portReset port tag => Sys2Proof.Machine.execPortReset port tag s
  | .serviceFrameDiscarded port => Sys2Proof.Machine.execServiceFrameDiscarded port s
  | .linkLineFall port => Sys2Proof.Machine.execLinkLineFall port s
  | .linkLineRise port => Sys2Proof.Machine.execLinkLineRise port s
  | .frameSent port => Sys2Proof.Machine.execFrameSent port s

end Sys2Proof.Machine
end

