-- ==== Sys2Proof/Safety.lean ====
section
/-! DEFINITION. What the spec promises of every state the part can be in: the invariants the rules state in words, and
the terms in which statements say what a command leaves as it was. -/

namespace Sys2Proof.Machine

/-! ### Breaks and alarms (R120, R127, R130) -/

/-- R130: the break states in which a break is open. -/
def BreakState.open : BreakState → Bool
  | .brk | .threading | .recovery => true
  | .unproven | .sheetOn => false

/-- The number of ACTIVE records. -/
def activeCount (l : List Alarm) : Nat := (l.filter (fun r => decide (r.state = .active))).length

/-- R120, R127, R130: at most 8 records, an ACTIVE one of kind BREAK exactly while a break is open, and the output
ASSERTED exactly then. -/
abbrev AlarmsMatch (s : State) : Prop :=
  s.alarms.records.length ≤ 8 ∧ activeCount s.alarms.records = s.mon.state.open.toNat ∧
    (∀ r ∈ s.alarms.records, r.state = .active → r.kind = .brk) ∧ s.mon.output = s.mon.state.open

/-! ### The scan in progress and the sets (R7, R58, R73, R77) -/

/-- A set that gathers the current scan (R73, R75). -/
def AccSet.gathers (a : AccSet) (c : CurScan) : Bool :=
  decide (a.state = .accumulating) && decide (a.scan = c.number) && decide (a.dir = c.dir) &&
    decide (a.slipped = c.slipped)

/-- R7, R58, R73: in SCANNING the current scan and the tracker are present and one set gathers the scan; in every
other state there is no current scan, no tracker and no ACCUMULATING set. -/
abbrev ScanMatches (s : State) : Prop :=
  match s.trav.cur with
  | some c =>
    s.trav.state = .scanning ∧ c.number = s.trav.scanNumber ∧ s.edge.tracker.isSome = true ∧
      ((s.edge.x.gathers c = true ∧ s.edge.y.state ≠ .accumulating) ∨
        (s.edge.y.gathers c = true ∧ s.edge.x.state ≠ .accumulating))
  | none =>
    s.trav.state ≠ .scanning ∧ s.edge.tracker = none ∧ s.edge.x.state ≠ .accumulating ∧
      s.edge.y.state ≠ .accumulating

/-- R73, R77, R78: at most one set is FINALIZING, and a set waits only while the other is FINALIZING. -/
abbrev FinalizerMatches (s : State) : Prop :=
  ¬ (s.edge.x.state = .finalizing ∧ s.edge.y.state = .finalizing) ∧
    (s.edge.x.state = .waiting → s.edge.y.state = .finalizing) ∧
    (s.edge.y.state = .waiting → s.edge.x.state = .finalizing)

/-! ### The traverse controller (R7, R13, R22, R27, R153) -/

/-- R22: while the break state does not permit scanning, the controller is in IDLE, PARKING, STANDARDIZING or FAULT. -/
abbrev ParkedInBreak (s : State) : Prop :=
  s.permits = false →
    s.trav.state = .idle ∨ s.trav.state = .parking ∨ s.trav.state = .standardizing ∨ s.trav.state = .fault

/-- R27, R153: a standardization is in flight exactly in STANDARDIZING, and the group-due mark is set only there. -/
abbrev FlightMatches (s : State) : Prop :=
  (s.std.flight.isSome = true ↔ s.trav.state = .standardizing) ∧
    (s.setup.groupMark = true → s.trav.state = .standardizing)

/-- R7: the ranges of the position, the counts and the scan number; three failures only in FAULT (R13). -/
abbrev TraverseInRange (s : State) : Prop :=
  s.trav.pos ≤ maxPos ∧ s.trav.sinceStd ≤ 255 ∧ s.trav.scanNumber ≤ max32 ∧ s.trav.failCount ≤ 3 ∧
    (s.trav.failCount = 3 → s.trav.state = .fault)

/-! ### The ring and the pins (R92, R94, R95) -/

/-- The scan numbers of the ring's entries, oldest first. -/
def Ring.scans (r : Ring) : List Nat := r.entries.map (fun e => e.header.scan)

/-- The scan of a set that has ended and is not yet in the ring, or that is being gathered. -/
def AccSet.holds (a : AccSet) : Option Nat := if a.state = .free then none else some a.scan

/-- R92: each set's scan is newer than every entry of the ring and no newer than the last scan started, and a WAITING
or ACCUMULATING set holds a later scan than a FINALIZING one. -/
abbrev SetsNewer (s : State) : Prop :=
  (∀ n ∈ s.ring.scans, n ≤ s.trav.scanNumber ∧ (∀ m ∈ s.edge.x.holds, n < m) ∧ (∀ m ∈ s.edge.y.holds, n < m)) ∧
    (∀ m ∈ s.edge.x.holds, m ≤ s.trav.scanNumber) ∧ (∀ m ∈ s.edge.y.holds, m ≤ s.trav.scanNumber) ∧
    (∀ m ∈ s.edge.x.holds, ∀ n ∈ s.edge.y.holds,
      (s.edge.x.state = .finalizing → m < n) ∧ (s.edge.y.state = .finalizing → n < m))

/-- R94: the port's engine is in a transfer. -/
def Port.inTransfer (q : Port) : Bool :=
  match q.engine with
  | some j => j.transfer
  | none => false

/-- R94: a port pins an entry exactly while its engine is in a transfer, and that entry is in the ring. -/
abbrev PinMatches (s : State) (p : PortId) : Prop :=
  match s.ring.pins.get p with
  | some n => (s.ports.get p).inTransfer = true ∧ n ∈ s.ring.scans
  | none => (s.ports.get p).inTransfer = false

/-- R92, R94, R95: at most 4 entries in strictly increasing scan number; pins name entries; a marked entry is pinned. -/
abbrev RingSound (s : State) : Prop :=
  s.ring.entries.length ≤ 4 ∧ s.ring.scans.Pairwise (· < ·) ∧ SetsNewer s ∧
    (∀ e ∈ s.ring.entries, e.marked = true → s.ring.pinned e.header.scan = true) ∧
    PinMatches s .sp0 ∧ PinMatches s .sp1 ∧ PinMatches s .sp2

/-! ### The setup store (R136 to R140, R149) -/

/-- A value of an item: of its kind and within its range (R137, R138); an active curve may be unloaded. -/
def valueFits (i : Item) (v : SetupValue) : Bool :=
  match i.shape, v with
  | .scalar lo hi, .scalar n => decide (lo ≤ n) && decide (n ≤ hi)
  | .enumerated codes, .code c => decide (c < codes)
  | .curve count top rising, .curve points => decide (points.length = count) && curveShape top rising points
  | _, _ => false

/-- R137: an item's active value: one that fits, or the unloaded state of BW_CURVE and WATER_CURVE. -/
def activeFits (a : Setup) (i : Item) : Bool :=
  valueFits i (a.get i) ||
    (decide (i = .bwCurve) && decide (a.bwCurve = none)) || (decide (i = .waterCurve) && decide (a.waterCurve = none))

/-- R139: a setup meets every cross-item constraint. -/
def Setup.consistent (a : Setup) : Bool := (firstFailing a).isNone

/-- R140: a staging list: at most 32 entries, one for each item at most, each with a value of its item. -/
abbrev StagingSound (l : List Staged) : Prop :=
  l.length ≤ 32 ∧ (l.map Staged.item).Nodup ∧ ∀ e ∈ l, valueFits e.item e.value = true

/-- R137, R139, R140, R149: the active values are in range; the armed set is in strictly ascending item id with values
of its items; the staging lists are sound; and the active setup, alone and overlaid by the armed set, meets every
cross-item constraint. -/
abbrev SetupSound (s : State) : Prop :=
  (∀ i ∈ Item.all, activeFits s.setup.active i = true) ∧
    (s.setup.armed.map (fun e => e.item.id)).Pairwise (· < ·) ∧
    (∀ e ∈ s.setup.armed, valueFits e.item e.value = true) ∧
    StagingSound s.setup.staging.sp0 ∧ StagingSound s.setup.staging.sp1 ∧ StagingSound s.setup.staging.sp2 ∧
    s.setup.active.consistent = true ∧
    (s.setup.active.overlay (s.setup.armed.map Armed.pair)).consistent = true ∧ s.setup.generation ≤ max16

/-! ### The ports and the tallies (R159, R163, R168, R178) -/

/-- R163, R168, R169: the bounds of a port's queues; one PROFILE_READY at most whose sending has not begun. -/
abbrev PortSound (q : Port) : Prop :=
  q.inbound.length ≤ 8 ∧ q.refusals.length ≤ 4 ∧ q.notices.length ≤ 16 ∧
    (q.unbegun.filter Notice.isProfileReady).length ≤ 1

/-- R163, R168, R169: the three ports. -/
abbrev PortsSound (s : State) : Prop := PortSound s.ports.sp0 ∧ PortSound s.ports.sp1 ∧ PortSound s.ports.sp2

/-- R178: every tally is in 0..4,294,967,295. -/
abbrev TalliesInRange (s : State) : Prop := ∀ id ∈ TallyId.all, (s.tallies.get id).value ≤ max32

/-! ### What a command leaves as it was -/

/-- A port that at most queued notices, dropped notices and began to send: everything else of it is as before. -/
structure Port.Kept (q q' : Port) : Prop where
  linkUp      : q'.linkUp = q.linkUp
  inbound     : q'.inbound = q.inbound
  refusals    : q'.refusals = q.refusals
  engine      : q'.engine = q.engine
  subs        : q'.subs = q.subs
  masterHold  : q'.masterHold = q.masterHold
  overtaken   : q'.overtaken = q.overtaken
  holdSent    : q'.holdSent = q.holdSent
  partTimer   : q'.partTimer = q.partTimer
  holdsOut    : q'.holdsOut = q.holdsOut
  resetAnswer : q'.resetAnswer = q.resetAnswer

/-- The three ports at most queued notices, dropped notices and began to send. -/
def PortsKept (s t : State) : Prop :=
  (s.ports.sp0.Kept t.ports.sp0) ∧ (s.ports.sp1.Kept t.ports.sp1) ∧ (s.ports.sp2.Kept t.ports.sp2)

/-- Every tally but those listed and NOTICES_DROPPED is as it was. -/
def TalliesKept (ids : List TallyId) (s t : State) : Prop :=
  ∀ id, id ∉ ids → id ≠ .noticesDropped → t.tallies.get id = s.tallies.get id

/-- `t` differs from `s` in notices queued, dropped or begun and in the tallies listed and NOTICES_DROPPED alone. -/
structure OnlyNotices (ids : List TallyId) (s t : State) : Prop where
  link : t.link = s.link
  trav : t.trav = s.trav
  std : t.std = s.std
  edge : t.edge = s.edge
  ring : t.ring = s.ring
  mon : t.mon = s.mon
  alarms : t.alarms = s.alarms
  setup : t.setup = s.setup
  carriageTx : t.carriageTx = s.carriageTx
  freeCount : t.freeCount = s.freeCount
  pending : t.pending = s.pending
  ports : PortsKept s t
  tallies : TalliesKept ids s t

/-- `t` differs from `s` in its ports by notices alone, and not at all in the commands that wait and in the free values
used. -/
abbrev SendersKept (s t : State) : Prop := PortsKept s t ∧ t.pending = s.pending ∧ t.freeCount = s.freeCount

/-- R165: the request may be taken at once: the port is UP, its engine idle and its inbound queue empty. -/
abbrev TakesAtOnce (p : PortId) (s : State) : Prop :=
  (s.ports.get p).linkUp = true ∧ (s.ports.get p).engine = none ∧ (s.ports.get p).inbound = []

/-- R164: a port whose engine takes a request: the part's hold on the master is released when the occupancy calls for
it. -/
def taken (p : PortId) (s : State) : State := s.onPort p Port.releaseHold

/-- R165, R167: the port's engine holds the one response of the request it has taken, and the senders look for their
next frame. -/
def replied (p : PortId) (tag req : BitVec 8) (code : RespCode) (body : RespBody) (s : State) : State :=
  settle (s.onPort p (fun q => { q with engine := some ⟨[.response ⟨tag, req, true, code, body⟩], false⟩ }))

/-- R14: MOVE to a target is sent, the target is recorded, and the state becomes POSITIONING. -/
def sentTo (what : MoveTarget) (target : Nat) (s : State) : State :=
  let u := issue (.move target) s
  changeState .positioning { u with trav := { u.trav with target := some what } }

/-- R13: STANDARDIZING is entered: the standardize-at-park flag is cleared, the move timer stops, and the
standardization unit starts. -/
def standardizing (s : State) : State :=
  startStandardization
    (changeState .standardizing { s with trav := { s.trav with stdAtPark := false, moveTimer := none } })

/-! ### A sample on its way (R3 to R5) -/

/-- R3, R4: the state after the gap check of a sample that is no repeat: the link is UP with its silence timer started
afresh, the seq is the last seq, and the samples missing before it are counted. -/
def gapChecked (f : SampleFrame) (s : State) : State :=
  let missing := (s.link.lastSeq.map (fun last => (f.seq.toNat + 65535 - last.toNat) % 65536)).getD 0
  let linked : State :=
    { s with link := { s.link with up := true, silence := some s.setup.active.headTimeout, lastSeq := some f.seq } }
  if missing = 0 then linked else count .samplesMissing missing linked

/-- R5: the state in which such a sample goes to its destination when it carries no index flag: its position is the
current position. -/
def placed (f : SampleFrame) (s : State) : State :=
  let low := f.pos.toNat % 128
  let step : Int := if low < 64 then low else (low : Int) - 128
  let pos := match s.setup.active.positionMode with
    | .encoder => min f.pos.toNat 32767
    | .reckoned => (max 0 (min 32767 ((s.trav.pos : Int) + step))).toNat
  { gapChecked f s with trav := { s.trav with pos := pos } }

/-! ### Apply events at scan starts and scan ends (R145, R150 to R155) -/

/-- R155: the store after an apply event of the armed entries that `picks` names: they leave the armed set, their values
become active, and the generation moves when the value of an AT_SCAN_END or AT_STANDARDIZE item changed. -/
def SetupStore.appliedBy (u : SetupStore) (picks : Armed → Bool) : SetupStore :=
  let l := u.armed.filter picks
  let moves := l.any fun e => decide (e.item.cls ≠ .immediate) && decide (u.active.get e.item ≠ e.value)
  { u with
    active := l.foldl (fun a e => a.put e.item e.value) u.active
    armed := u.armed.filter (fun e => !picks e)
    generation := if moves then (if u.generation = 65535 then 1 else u.generation + 1) else u.generation }

/-- R155: the same apply event with its SETUP_APPLIED notice; nothing when no entry is picked. -/
def appliedAt (point : ApplyPoint) (picks : Armed → Bool) (s : State) : State :=
  let l := s.setup.armed.filter picks
  let u := s.setup.appliedBy picks
  if l = [] then s else notify (.setupApplied u.generation l.length point s.trav.scanNumber) { s with setup := u }

/-- R151: an entry that a scan start applies: of class AT_SCAN_END, with its target reached. -/
def scanStartPicks (s : State) (e : Armed) : Bool :=
  decide (e.item.cls = .atScanEnd) && match e.target with
    | .next => true
    | .scan n => decide (n.toNat < s.trav.scanNumber ∨ (n.toNat = s.trav.scanNumber ∧ s.trav.cur = none))

/-- R152: an entry that the end of scan `n` applies: not of class AT_STANDARDIZE, with its target reached. -/
def scanEndPicks (n : Nat) (e : Armed) : Bool :=
  decide (e.item.cls ≠ .atStandardize) && match e.target with
    | .next => true
    | .scan m => decide (m.toNat ≤ n)

/-- R153: the end of scan `n` reaches the last outstanding target of the armed AT_STANDARDIZE group, so that the group
becomes due: every target is NEXT or at most `n`, and one is `n`. -/
def groupFallsDue (n : Nat) (l : List Armed) : Bool :=
  let targets := (l.filter (fun e => decide (e.item.cls = .atStandardize))).map Armed.target
  (targets.all fun g => match g with
    | .next => true
    | .scan m => decide (m.toNat ≤ n)) &&
  (targets.any fun g => match g with
    | .next => false
    | .scan m => decide (m.toNat = n))

/-- R152, R153: the application at the end of the scan whose number the controller holds, `u` being the state after
every other effect of that end. No line enable is among the entries it applies. -/
def scanEndApplied (u : State) : State :=
  let n := u.trav.scanNumber
  let v := appliedAt .scanEnd (scanEndPicks n) u
  { v with trav := { v.trav with stdDue := v.trav.stdDue || groupFallsDue n u.setup.armed } }

/-- No line enable is armed (R114; what one does inside a scan end is log entry 12). -/
abbrev NoLineEnable (s : State) : Prop :=
  ∀ e ∈ s.setup.armed, e.item ≠ .breakLineEnable ∧ e.item ≠ .tailLineEnable

/-! ### Breaks and scans, with the notices they queue (R15, R17, R76, R117, R118) -/

/-- R118 step 3: the rebreak count of the ACTIVE record goes up by one, to 255 at most, and its ALARM notice is queued.
-/
def rebroken (s : State) : State :=
  let again (r : Alarm) : Alarm := { r with rebreaks := min (r.rebreaks + 1) 255 }
  let l := s.alarms.records
  let u : State :=
    { s with alarms := { s.alarms with records := l.map (fun r => if r.state = .active then again r else r) } }
  match l.find? (fun r => decide (r.state = .active)) with
  | some r => notify (.alarm .rebreak (again r)) u
  | none => u

/-- R117 steps 1 to 8, from UNPROVEN and SHEET_ON, and R118 steps 1 to 4, from RECOVERY, whose fourth takes over steps 7
and 8: a break is declared, or declared again. Its ALARM notice is queued before its BREAK_STATE notice. -/
def breakTaken (cause : Cause) (scan : Nat) (pos : Option Nat) (s : State) : State :=
  let again := decide (s.mon.state = .recovery)
  let width := s.edge.mapping.map (fun m => m.back - m.front)
  let broken : State :=
    { s with
      edge := { s.edge with mapping := none, jumps := 0 }
      ring := { s.ring with reseedPending := true, breakScan := s.trav.scanNumber }
      mon := { s.mon with state := .brk, recovery := 0, stdInBreak := false
                          refWidth := if again then width.or s.mon.refWidth else width } }
  let asserted (u : State) : State := { u with mon := { u.mon with output := true } }
  let counted := count .breaks 1
    (if again then rebroken broken else asserted (raiseAlarm .brk (some cause) scan pos broken))
  notify (.breakState .brk s.mon.state cause s.trav.scanNumber counted.mon.output counted.mon.refWidth counted.rebreaks)
    counted

/-- R17: the end of the scan in progress is reported: the scan is removed, the tally of its end code counts, and
SCAN_END is queued. -/
def scanEndNoted (code : EndCode) (s : State) : State :=
  let tally : TallyId := match code with
    | .complete => .scansComplete
    | .broken => .scansBroken
    | .stopped => .scansStopped
    | .headFault => .scansFaulted
  match s.trav.cur with
  | some c =>
    notify (.scanEnd c.number c.dir code) (count tally 1 { s with trav := { s.trav with cur := none } })
  | none => s

/-- R76: the set that gathers the scan in progress is freed, and the tracker removed (the content of a FREE set is log
entry 13's). -/
def gatheringFreed (s : State) : State :=
  let sets := match s.edge.accumulating with
    | some i => s.edge.set i AccSet.free
    | none => s.edge
  { s with edge := { sets with tracker := none } }

/-- R17, R76, R152, R153: the scan in progress ends with a code other than COMPLETE. -/
def scanDropped (code : EndCode) (s : State) : State := scanEndApplied (scanEndNoted code (gatheringFreed s))

/-- R74: the set of a scan as it is claimed: the state's setup as its parameter snapshot, its bins cleared. That the
record number is 0 without a current record is log entry 24's. -/
def claimedFor (number : Nat) (dir : Dir) (s : State) : AccSet :=
  let b := s.setup.active
  { state := .accumulating, scan := number, dir := dir, slipped := false, stale := s.std.stale,
    recovery := decide (s.mon.state = .recovery), edges := none, mapping := none,
    snap :=
      { generation := s.setup.generation, stdNumber := (s.std.current.map StdRecord.number).getD 0,
        binOrigin := b.binOrigin, binWidth := b.binWidth, binCount := b.binCount, zoneCount := b.zoneCount,
        zoneKind := b.zoneKind, shrinkCurve := b.shrinkCurve, airThreshold := b.airThreshold, edgeRun := b.edgeRun,
        edgeMargin := b.edgeMargin, edgeTol := b.edgeTol, edgeAccept := b.edgeAccept, breakSpan := b.breakSpan,
        holeMin := b.holeMin, minSamples := b.minSamples, filterBw := b.filterBw, filterDw := b.filterDw,
        filterMo := b.filterMo, filterCa := b.filterCa, holdLimit := b.holdLimit }
    bins := List.replicate b.binCount ⟨0, 0, 0, 0, 0, 0, 0⟩, accepted := 0 }

/-- R15, R151: a scan starts in set `i`: the entries of the armed set apply, the next scan number is taken, the set is
claimed, MOVE to the far turn point is sent, and the state becomes SCANNING. -/
def scanBegun (i : SetId) (dir : Dir) (s : State) : State :=
  let applied := appliedAt .scanStart (scanStartPicks s) s
  let n := s.trav.scanNumber + 1
  let begun : State :=
    { applied with
      trav := { applied.trav with scanNumber := n, cur := some ⟨n, dir, false⟩ }
      edge := { applied.edge.set i (claimedFor n dir applied) with tracker := some ⟨0, none, none, none, none, none⟩ } }
  let b := applied.setup.active
  let sent := issue (.move (match dir with | .fwd => b.turnD | .rev => b.turnF)) begun
  changeState .scanning
    { sent with trav := { sent.trav with target := some (match dir with | .fwd => .turnD | .rev => .turnF) } }

/-! ### A finalized scan (R80 to R95) -/

/-- R80 to R95: `e` is the entry that finalizing set `i` makes, and `u` is the state with it in the ring: an unpinned
entry of a full ring makes room, the set is freed (its content then is log entry 13's), a WAITING set begins finalizing,
the flush mark is cleared, and the reseed-pending flag is cleared when the break rule applied. -/
abbrev FinalizedAs (s : State) (i : SetId) (e : RingEntry) (u : State) : Prop :=
  let a := s.edge.get i
  let previous := (s.ring.entries.filter (fun e => !e.marked)).getLast?
  let broke : Bool := s.ring.reseedPending && decide (s.ring.breakScan < a.scan)
  let reseeds : Bool := s.ring.flush || broke || (previous.map fun e =>
    decide (e.header.binOrigin ≠ a.snap.binOrigin ∨ e.header.binWidth ≠ a.snap.binWidth ∨
      e.header.binCount ≠ a.snap.binCount)).getD true
  let freed := s.edge.set i AccSet.free
  let passed := match i with
    | .x => if s.edge.y.state = .waiting then { freed with y := { s.edge.y with state := .finalizing } } else freed
    | .y => if s.edge.x.state = .waiting then { freed with x := { s.edge.x with state := .finalizing } } else freed
  let pinned (e : RingEntry) : Prop := ∃ p, s.ring.pins.get p = some e.header.scan
  ∃ room : List RingEntry,
    e.marked = false ∧ e.header.scan = a.scan ∧ e.header.dir = a.dir ∧ (∀ x, a.edges = some x → e.header.edges = x) ∧
    e.header.mapping = a.mapping ∧ e.header.slipped = a.slipped ∧ e.header.stale = a.stale ∧
    e.header.recovery = a.recovery ∧ e.header.reseeded = reseeds ∧ e.header.generation = a.snap.generation ∧
    e.header.stdNumber = a.snap.stdNumber ∧ e.header.binOrigin = a.snap.binOrigin ∧
    e.header.binWidth = a.snap.binWidth ∧ e.header.binCount = a.snap.binCount ∧ e.header.accepted = a.accepted ∧
    (e.zones.isSome = true ↔ a.mapping.isSome = true ∧ 1 ≤ a.snap.zoneCount) ∧ e.zones = zonesOf a e.body ∧
    (e.header.controlValid = true ↔
      s.mon.state = .sheetOn ∧ a.stale = false ∧ a.slipped = false ∧ e.zones.isSome = true) ∧
    (∀ k, (e.body.get k).length = a.bins.length) ∧
    (∀ x k (j : Nat) (b : Bin), a.edges = some x → a.bins[j]? = some b →
      (e.body.get k)[j]? = some (formCell a.snap x reseeds previous k j b)) ∧
    (∀ k, e.header.stats.get k =
      statsOf ((e.body.get k).filterMap (fun c => if c.rawState = .on then c.raw else none))) ∧
    (s.ring.entries.length < 4 → room = s.ring.entries) ∧
    (∀ older old newer, 4 ≤ s.ring.entries.length → s.ring.entries = older ++ old :: newer →
      (∀ x ∈ older, pinned x) → ¬ pinned old → room = older ++ newer) ∧
    u = { s with
          edge := passed
          ring := { s.ring with entries := room ++ [e], flush := false
                                reseedPending := s.ring.reseedPending && !broke } }

/-- R91: the PROFILE_READY notice of an entry. -/
def readyNotice (e : RingEntry) : Notice :=
  .profileReady e.header.scan e.header.dir e.header.slipped e.header.stale e.header.recovery e.header.reseeded
    e.header.controlValid e.zones.isSome e.header.generation

/-! ### The values after a reset (chapters 1, 2, 4, 5, 7, 8, 9 and 10) -/

/-- The values that the tables of R3, R7, R27, R58, R86, R92, R113, R127, R136, R137, R159 and R178 give the blocks
after device reset, the levels of the pins apart; no set is FINALIZING, so the finalizer is idle (R78). -/
abbrev AtResetValues (t : State) : Prop :=
  t.link = { up := false, silence := none, lastSeq := none, headPresent := false, cmdNo := 0, lastMotion := none } ∧
    (t.trav.state = .idle ∧ t.trav.intent = .off ∧ t.trav.dwellPos = 0 ∧ t.trav.pos = 0 ∧ t.trav.atPark = false ∧
      t.trav.moveTimer = none ∧ t.trav.stdDue = true ∧ t.trav.stdAtPark = false ∧ t.trav.failCount = 0 ∧
      t.trav.sinceStd = 0 ∧ t.trav.scanNumber = 0 ∧ t.trav.cur = none ∧
      t.trav.dwell = ⟨0, 0, 0, 0, 0, 0, 0, 0⟩) ∧
    t.std = { current := none, previous := none, stale := false, nextNumber := 1, retry := none, lastResult := none,
              flight := none } ∧
    (t.edge.x.state = .free ∧ t.edge.y.state = .free ∧ t.edge.mapping = none ∧ t.edge.jumps = 0 ∧
      t.edge.tracker = none) ∧
    t.ring = { entries := [], pins := ⟨none, none, none⟩, reseedPending := false, breakScan := 0, flush := false } ∧
    (t.mon.state = .unproven ∧ t.mon.recovery = 0 ∧ t.mon.refWidth = none ∧ t.mon.stdInBreak = false ∧
      t.mon.brk.debounced = false ∧ t.mon.tail.debounced = false ∧ t.mon.output = false) ∧
    t.alarms = { records := [], nextId := 1 } ∧
    (Item.all.map t.setup.active.get =
        [.scalar 400, .scalar 20800, .scalar 100, .scalar 500, .scalar 20700, .scalar 600, .scalar 100, .scalar 200,
         .code 0, .scalar 8, .curve [], .curve [], .scalar 1024, .scalar 1024, .scalar 0, .code 1,
         .curve ((List.range 17).map (2048 * ·)), .scalar 20, .scalar 1024, .scalar 200, .scalar 62000, .scalar 4,
         .scalar 100, .scalar 60, .scalar 3, .scalar 400, .scalar 2, .scalar 2, .scalar 200, .scalar 64, .scalar 3,
         .scalar 64, .scalar 64, .scalar 64, .scalar 64, .scalar 3, .scalar 512, .scalar 20, .scalar 30, .code 1,
         .code 1, .scalar 50, .code 0, .scalar 6, .scalar 100] ∧
      t.setup.active.bwCurve = none ∧ t.setup.active.waterCurve = none ∧ t.setup.armed = [] ∧
      t.setup.staging = ⟨[], [], []⟩ ∧ t.setup.generation = 0 ∧ t.setup.groupMark = false) ∧
    (∀ p ∈ [PortId.sp0, .sp1, .sp2],
      t.ports.get p = { Port.afterReset (t.ports.get p).linkUp with
        inbound := [], refusals := [], engine := none, notices := [], overrun := false, subs := 0,
        masterHold := none, holdSent := false, partTimer := none, resetAnswer := none }) ∧
    (∀ id ∈ TallyId.all, t.tallies.get id = ⟨0, false⟩)

end Sys2Proof.Machine
end

