-- ==== Sys2Proof/WellFormed.lean ====
section
/-! DEFINITION. Well-formed commands: the operands are ones that the frame, report or change behind the command can
carry. -/

namespace Sys2Proof

/-- A value of the form its item calls for, as a WRITE SETUP payload can hold it (chapter 11, Requests). -/
def Offered.fits : Offered → ItemShape → Bool
  | .scalar _, .scalar _ _ => true
  | .code _, .enumerated _ => true
  | .curve points, .curve _ _ _ => decide (points.length ≤ 255)
  | _, _ => false

/-- A value that WRITE SETUP can carry for the item of this id; any form when the id names no item. -/
def offeredFits (item : BitVec 8) (value : Offered) : Bool :=
  match Item.ofId item.toNat with
  | some i => value.fits i.shape
  | none => true

/-- A request that a REQUEST payload can spell: a WRITE SETUP names an item and offers a value of its form, and the
request is no failed parse. -/
def Request.wellFormed : Request → Bool
  | .writeSetup item value => (Item.ofId item.toNat).isSome && offeredFits item value
  | .malformed _ => false
  | _ => true

/-- A payload of a REQUEST frame: at most 512 bytes (R161, R162). -/
def payloadFits (payload : List Byte) : Bool := decide (payload.length ≤ 512)

/-- A payload that does not parse (R165). -/
def isMalformed (payload : List Byte) : Bool :=
  match parseRequest payload with
  | .malformed _ => true
  | _ => false

/-- A well-formed command. -/
def Instr.wellFormed : Instr → Bool
  | .requestArrival _ _ payload => payloadFits payload
  | .requestMalformed _ _ payload => payloadFits payload && isMalformed payload
  | .writeSetup _ _ item value => offeredFits item value
  | _ => true

end Sys2Proof
end

