-- ==== Sys2Proof/Certificates/Slice0/Obligations.lean ====
section
/-! DEFINITION. The statements for the provers, block by block. -/

open Sys2Proof Sys2Proof.Machine

/-! ### The machine and its reset -/

/-- A step takes the command at the front of the queue; on an empty queue the part idles (log entry 1). -/
def Obligations.StepRunsTheFrontCommand : Prop :=
  ∀ s : State,
    (∀ (c : Instr) (rest : List Instr), s.pending = c :: rest → step s = exec c { s with pending := rest }) ∧
      (s.pending = [] → step s = .next s)

/-- Right after reset every block holds what its table gives, and every invariant holds. That no motion command is the
last one (log entry 27), that nothing is in sending and no HOLD waits to be sent (log entry 20), and that no expiry is
overtaken (log entry 34) are the model's, not a table's. -/
def Obligations.ResetLeavesTheValuesOfTheTables : Prop :=
  let s := State.reset
  AtResetValues s ∧ AlarmsMatch s ∧ ScanMatches s ∧ FinalizerMatches s ∧ ParkedInBreak s ∧ FlightMatches s ∧
    RingSound s ∧ SetupSound s ∧ PortsSound s ∧ TraverseInRange s ∧ TalliesInRange s

/-- DEVICE_RESET gives every block its reset value; the lines stay as they stand, and a line that is held asserted
starts its debounce timer with the default 50 ms (R115). That no motion command is the last one (log entry 27), that a
frame in sending and the HOLD frames not yet sent are gone (log entry 20), and that no expiry is overtaken (log entry
34) are the model's, not a table's. -/
def Obligations.DeviceResetRestoresEveryBlock : Prop :=
  ∀ s : State, ∃ t : State, exec .deviceReset s = .next t ∧ AtResetValues t ∧
    (t.mon.brk.level = s.mon.brk.level ∧ t.mon.brk.timer = if s.mon.brk.level then some 50 else none) ∧
    (t.mon.tail.level = s.mon.tail.level ∧ t.mon.tail.timer = if s.mon.tail.level then some 50 else none) ∧
    (∀ p, (t.ports.get p).linkUp = (s.ports.get p).linkUp) ∧
    t.carriageTx = s.carriageTx ∧ t.freeCount = s.freeCount ∧ t.pending = s.pending

/-! ### Frames and their bytes (R162, R186 to R188) -/

/-- Every request a payload can spell is read back from its payload. -/
def Obligations.RequestPayloadsAreReadBack : Prop :=
  ∀ r : Request, r.wellFormed = true → parseRequest (encodeRequest r) = r

/-- A REQUEST, HOLD or PORT_RESET frame, closed by its CRC-16, escaped and put between delimiters, gives its own
command; no delimiter stands inside. -/
def Obligations.ServiceFramesAreReadBack : Prop :=
  ∀ (p : PortId) (tag : BitVec 8) (payload : List Byte) (time : BitVec 16), payload.length ≤ 512 →
    (∃ raw, wire (serviceBody 1 tag payload) = 0xA5 :: (raw ++ [0xA5]) ∧ (0xA5 : Byte) ∉ raw ∧
      serviceCommand p raw = .requestArrival p tag payload) ∧
    (∃ raw, wire (serviceBody 5 tag (bytes16 time)) = 0xA5 :: (raw ++ [0xA5]) ∧ (0xA5 : Byte) ∉ raw ∧
      serviceCommand p raw = .hold p time) ∧
    (∃ raw, wire (serviceBody 6 tag []) = 0xA5 :: (raw ++ [0xA5]) ∧ (0xA5 : Byte) ∉ raw ∧
      serviceCommand p raw = .portReset p tag)

/-- Every frame the head sends gives its own command. -/
def Obligations.CarriageFramesAreReadBack : Prop :=
  ∀ (c : Instr) (body : List Byte), encodeHead c = some body →
    ∃ raw, wire body = 0xA5 :: (raw ++ [0xA5]) ∧ (0xA5 : Byte) ∉ raw ∧ carriageCommand raw = c

/-- The frames of a stream are found one by one, whatever stands before the first delimiter; what stands between two
delimiters is discarded when its escapes or its CRC-16 are wrong, and on a service port also when it is shorter than six
bytes or its kind, its length or its payload is one of those R162 lists; a discarded service frame counts FRAMES_BAD
once and does nothing else. A carriage-link body that passes its check and is of unknown type, or of a length that does
not fit its type, is a frame of unknown type; that a body of its CRC-16 alone is one too is the model's (log entry 36).
-/
def Obligations.FramesAreFoundAndChecked : Prop :=
  (∀ (before : List Byte) (bodies : List (List Byte)), (0xA5 : Byte) ∉ before →
    rawFrames (before ++ bodies.flatMap wire) = bodies.map (fun b => escape (b ++ bytes16 (crc16 b)))) ∧
  (∀ (p : PortId) (raw : List Byte), (∀ front, unescape raw ≠ some (front ++ bytes16 (crc16 front))) →
    serviceCommand p raw = .serviceFrameDiscarded p ∧ carriageCommand raw = .carriageFrameDiscarded) ∧
  (∀ (p : PortId) (raw : List Byte) (kind tag : Byte) (l : BitVec 16) (payload : List Byte),
    unescape raw = some ((kind :: tag :: bytes16 l ++ payload) ++
      bytes16 (crc16 (kind :: tag :: bytes16 l ++ payload))) →
    (512 < l.toNat ∨ l.toNat ≠ payload.length ∨ (kind ≠ 1 ∧ kind ≠ 5 ∧ kind ≠ 6) ∨
      (kind = 5 ∧ payload.length ≠ 2) ∨ (kind = 6 ∧ payload ≠ [])) →
    serviceCommand p raw = .serviceFrameDiscarded p) ∧
  (∀ (p : PortId) (raw body : List Byte), unescape raw = some body → body.length < 6 →
    serviceCommand p raw = .serviceFrameDiscarded p) ∧
  (∀ raw front : List Byte, unescape raw = some (front ++ bytes16 (crc16 front)) →
    ¬ (front.head? = some 0x10 ∧ front.length = 17) → ¬ (front.head? = some 0x11 ∧ front.length = 4) →
    ¬ (front.head? = some 0x12 ∧ front.length = 2) → carriageCommand raw = .carriageFrameUnknownType) ∧
  (∀ (p : PortId) (s : State), (s.ports.get p).linkUp = true →
    exec (.serviceFrameDiscarded p) s = .next (settle (count .framesBad 1 s)))

/-! ### Notices, tallies and senders (R128, R167 to R170, R180, R181) -/

/-- A notice of any kind but SETUP_SUPERSEDED joins the tail of the queue of each port subscribed to its kind, and of no
other port; SETUP_SUPERSEDED joins the queue of the port it is for, whatever that port has subscribed to. A
PROFILE_READY queued at a port where one whose sending has not begun waits takes its place: the older leaves and the
newer stands at the tail. SUBSCRIBE replaces the port's set, or refuses a mark outside the ten kinds. -/
def Obligations.NoticesFollowTheSubscriptions : Prop :=
  (∀ (n : Notice) (s : State), n.code ≠ 7 →
    (∀ p, (s.ports.get p).subs.getLsbD (n.code - 1) = true →
      let q := s.ports.get p
      let waiting := if q.sending.map Sending.source = some .notice then q.notices.drop 1 else q.notices
      q.notices.length < 16 ∧ (n.isProfileReady = true → ∀ x ∈ waiting, x.isProfileReady = false)) →
    let join (q : Port) : Port := if q.subs.getLsbD (n.code - 1) then { q with notices := q.notices ++ [n] } else q
    notify n s = { s with ports := ⟨join s.ports.sp0, join s.ports.sp1, join s.ports.sp2⟩ }) ∧
  (∀ (p : PortId) (n : Notice) (s : State), n.code = 7 → (s.ports.get p).notices.length < 16 →
    let q := s.ports.get p
    queueAt n p s = { s with ports := s.ports.set p { q with notices := q.notices ++ [n] } }) ∧
  (∀ (q : Port) (n old : Notice) (first older newer : List Notice),
    first = (if q.sending.map Sending.source = some .notice then q.notices.take 1 else []) →
    q.notices = first ++ older ++ old :: newer → n.isProfileReady = true → old.isProfileReady = true →
    (∀ x ∈ older, x.isProfileReady = false) →
    q.queue n = { q with notices := first ++ older ++ newer ++ [n] }) ∧
  (∀ (p : PortId) (tag : BitVec 8) (mask : BitVec 16) (s : State), TakesAtOnce p s →
    (mask.toNat < 1024 →
      exec (.subscribe p tag mask) s =
        .next (replied p tag 17 .done (.subscription (mask.setWidth 10))
          ((taken p s).onPort p (fun q => { q with subs := mask.setWidth 10 })))) ∧
    (1024 ≤ mask.toNat →
      exec (.subscribe p tag mask) s = .next (replied p tag 17 .malformed .empty (taken p s))))

/-- A notice queued into a queue of 16 drops the oldest that is neither ALARM nor BREAK_STATE, counting itself, and the
oldest of all when every one is; a notice whose sending has begun is passed over, also where it alone is neither (log
entry 32); the overrun marker is set. The drop counts NOTICES_DROPPED once. When that count crosses the half mark, one
TALLY_MARK is queued at each subscribed port (in the order of log entry 7), and a drop that it makes at a full queue
counts once more without a mark of its own. -/
def Obligations.OverflowDropsOneNotice : Prop :=
  (∀ (q : Port) (n : Notice) (first rest : List Notice),
    first = (if q.sending.map Sending.source = some .notice then q.notices.take 1 else []) →
    q.notices = first ++ rest → q.notices.length = 16 →
    ¬ (n.isProfileReady = true ∧ ∃ x ∈ rest, x.isProfileReady = true) →
    ∃ (older newer : List Notice) (dropped : Notice),
      rest ++ [n] = older ++ dropped :: newer ∧
      ((older.all Notice.protected = true ∧ dropped.protected = false) ∨
        (older = [] ∧ (rest ++ [n]).all Notice.protected = true)) ∧
      q.queue n = { q with notices := first ++ older ++ newer, overrun := true,
                           sending := q.sending.map (fun x => { x with dropped := true }) }) ∧
  (∀ (p : PortId) (n : Notice) (s : State), (s.ports.get p).notices.length = 16 →
    let q := s.ports.get p
    let waiting := if q.sending.map Sending.source = some .notice then q.notices.drop 1 else q.notices
    ¬ (n.isProfileReady = true ∧ ∃ x ∈ waiting, x.isProfileReady = true) →
    let mode := s.setup.active.tallyMode
    let v := (s.tallies.get .noticesDropped).value
    let v' := if v + 1 ≤ 4294967295 then v + 1 else if mode = .wrap then v + 1 - 4294967296 else 4294967295
    let counted (half : Bool) : State :=
      { s with ports := s.ports.set p (q.queue n), tallies := s.tallies.set .noticesDropped ⟨v', half⟩ }
    let mark : Notice := .tallyMark .noticesDropped 2147483648 mode
    let told (x : PortId) (u : State) : State :=
      let y := u.ports.get x
      if y.subs.getLsbD 7 then
        { u with ports := u.ports.set x (y.queue mark)
                 tallies := if y.notices.length < 16 then u.tallies
                   else u.tallies.set .noticesDropped ⟨(u.tallies.get .noticesDropped).value + 1, true⟩ }
      else u
    (v ≠ 2147483647 → queueAt n p s = counted (s.tallies.get .noticesDropped).half) ∧
    (v = 2147483647 → (∀ x, (s.ports.get x).notices.length ≤ 16) →
      queueAt n p s = told .sp2 (told .sp1 (told .sp0 (counted true)))))

/-- A count adds its amount, wraps or freezes past the top by TALLY_MODE, sets the half-mark flag at a crossing, and
touches no other tally but NOTICES_DROPPED and nothing else but notice queues. A crossing queues one TALLY_MARK with the
value after the count; any other count queues nothing. -/
def Obligations.CountsFollowTheTallyMode : Prop :=
  ∀ (id : TallyId) (amount : Nat) (s : State),
    let v := (s.tallies.get id).value
    let mode := s.setup.active.tallyMode
    let v' := if v + amount ≤ 4294967295 then v + amount
      else if mode = .wrap then v + amount - 4294967296 else 4294967295
    let counted (half : Bool) : State := { s with tallies := s.tallies.set id ⟨v', half⟩ }
    (v < 2147483648 ∧ 2147483648 ≤ v' → count id amount s = notify (.tallyMark id v' mode) (counted true)) ∧
    (¬ (v < 2147483648 ∧ 2147483648 ≤ v') → count id amount s = counted (s.tallies.get id).half) ∧
    (id ≠ .noticesDropped →
      (count id amount s).tallies.get id =
          ⟨v', (s.tallies.get id).half || decide (v < 2147483648 ∧ 2147483648 ≤ v')⟩ ∧
        OnlyNotices [id] s (count id amount s))

/-- A free sender at an UP port takes the reset answer, then a part HOLD, then the oldest FULL answer, then the engine's
next frame, then the oldest notice with the overrun marker as its mark; a master hold keeps the last three back. That
of several part HOLDs waiting the first formed goes first is the model's (log entry 29). -/
def Obligations.SenderTakesTheFirstWaitingFrame : Prop :=
  ∀ q : Port,
    (q.linkUp = false ∨ q.sending.isSome = true → q.startSend = q) ∧
    (q.linkUp = true → q.sending = none →
      let takes (f : TxFrame) (src : TxSource) : Prop := q.startSend = { q with sending := some ⟨f, src, false⟩ }
      (∀ tag, q.resetAnswer = some tag → takes (.portReset tag) .resetAnswer) ∧
      (∀ time rest, q.resetAnswer = none → q.holdsOut = time :: rest → takes (.hold time) .partHold) ∧
      (q.resetAnswer = none → q.holdsOut = [] →
        (q.masterHold.isSome = true → q.startSend = q) ∧
        (q.masterHold = none →
          (∀ r rest, q.refusals = r :: rest → takes (.response r) .refusal) ∧
          (∀ f rest moving, q.refusals = [] → q.engine = some ⟨f :: rest, moving⟩ → takes f .engine) ∧
          (∀ n rest, q.refusals = [] → q.engine = none → q.notices = n :: rest →
            takes (.notice n q.overrun) .notice) ∧
          (q.refusals = [] → q.engine = none → q.notices = [] → q.startSend = q))))

/-- A raise evicts the oldest CLEARED record of a full list, gives the new record the next id and the ports subscribed
to ALARM, and removes a momentary alarm that no port needs at once. ACKNOWLEDGE ALARM records one port's
acknowledgement; a CLEARED record leaves the list when every port it needs has acknowledged it. -/
def Obligations.AlarmsAreRaisedAndAcknowledged : Prop :=
  (∀ (kind : AlarmKind) (cause : Option Cause) (scan : Nat) (pos : Option Nat) (s : State),
    (∀ r ∈ s.alarms.records, r.id ≠ s.alarms.nextId) →
    let ports : PortSet := ⟨s.ports.sp0.subs.getLsbD 3, s.ports.sp1.subs.getLsbD 3, s.ports.sp2.subs.getLsbD 3⟩
    let r : Alarm := ⟨s.alarms.nextId, kind, if kind = .brk then .active else .cleared, cause, scan, pos, 0, ports,
      ⟨false, false, false⟩⟩
    let next := if s.alarms.nextId = 65535 then 1 else s.alarms.nextId + 1
    let stays (room : List Alarm) : List Alarm :=
      if kind ≠ .brk ∧ ports = ⟨false, false, false⟩ then room else room ++ [r]
    let after (room : List Alarm) : Prop :=
      raiseAlarm kind cause scan pos s =
        { notify (.alarm .raised r) { s with alarms := ⟨room ++ [r], next⟩ } with alarms := ⟨stays room, next⟩ }
    (s.alarms.records.length < 8 → after s.alarms.records) ∧
    (∀ older old newer, 8 ≤ s.alarms.records.length → s.alarms.records = older ++ old :: newer →
      old.state = .cleared → (∀ a ∈ older, a.state = .active) → after (older ++ newer))) ∧
  (∀ (p : PortId) (tag : BitVec 8) (id : BitVec 16) (s : State), TakesAtOnce p s →
    ((∀ r ∈ s.alarms.records, r.id ≠ id.toNat) →
      exec (.acknowledgeAlarm p tag id) s = .next (replied p tag 12 .unknownId .empty (taken p s))) ∧
    (∀ (older newer : List Alarm) (r : Alarm), s.alarms.records = older ++ r :: newer → r.id = id.toNat →
      (∀ a ∈ older ++ newer, a.id ≠ id.toNat) →
      (r.needed.get p = false →
        exec (.acknowledgeAlarm p tag id) s = .next (replied p tag 12 .notNeeded .empty (taken p s))) ∧
      (r.needed.get p = true →
        exec (.acknowledgeAlarm p tag id) s =
          .next (replied p tag 12 .done .empty
            { taken p s with alarms := { s.alarms with
                records := older ++
                  (if r.state = .cleared ∧
                      ([PortId.sp0, .sp1, .sp2].all fun q =>
                        !r.needed.get q || r.acked.get q || decide (q = p)) = true
                    then [] else [{ r with acked := r.acked.set p true }]) ++ newer } }))))

/-! ### The carriage link and the way of a sample (R1 to R6, R41 to R65) -/

/-- A frame whose check fails does nothing. Every checked frame sets the link UP and starts the silence timer afresh; a
frame of unknown type, a repeated sample, an ARRIVED that is not taken and a HEAD_STATUS with present set and fault
clear do nothing else but, for the last, set the head-present flag. -/
def Obligations.CheckedFramesKeepTheLinkUp : Prop :=
  ∀ s : State,
    let linked : CarriageLink := { s.link with up := true, silence := some s.setup.active.headTimeout }
    exec .carriageFrameDiscarded s = .next s ∧
    exec .carriageFrameUnknownType s = .next { s with link := linked } ∧
    (∀ f : SampleFrame, s.link.lastSeq = some f.seq → exec (.sample f) s = .next { s with link := linked }) ∧
    (∀ (number : BitVec 8) (pos : BitVec 16),
      s.link.lastMotion ≠ some number ∨
        (s.trav.state ≠ .parking ∧ s.trav.state ≠ .positioning ∧ s.trav.state ≠ .scanning) →
      exec (.arrived number pos) s = .next { s with link := linked }) ∧
    (∀ flags : BitVec 8, flags.getLsbD 0 = true → flags.getLsbD 1 = false →
      exec (.headStatus flags) s = .next { s with link := { linked with headPresent := true } })

/-- A sample that is no repeat sets the link UP, leaves its seq as the last seq, counts the samples missing before it
and moves the position. Outside SCANNING, DWELLING and STANDARDIZING it goes no further; in SCANNING and DWELLING it is
rejected where it cannot be converted. -/
def Obligations.SamplesThatGoNoFurther : Prop :=
  ∀ (f : SampleFrame) (s : State), s.link.lastSeq ≠ some f.seq → indexFFlag f = false → indexDFlag f = false →
    let missing := (s.link.lastSeq.map (fun last => (f.seq.toNat + 65535 - last.toNat) % 65536)).getD 0
    let linked : State :=
      { s with link := { s.link with up := true, silence := some s.setup.active.headTimeout, lastSeq := some f.seq } }
    let counted := if missing = 0 then linked else count .samplesMissing missing linked
    let low := f.pos.toNat % 128
    let step : Int := if low < 64 then low else (low : Int) - 128
    let pos := match s.setup.active.positionMode with
      | .encoder => min f.pos.toNat 32767
      | .reckoned => (max 0 (min 32767 ((s.trav.pos : Int) + step))).toNat
    let placed : State := { counted with trav := { s.trav with pos := pos } }
    (s.trav.state = .idle ∨ s.trav.state = .parking ∨ s.trav.state = .positioning ∨ s.trav.state = .turnWait ∨
        s.trav.state = .fault →
      exec (.sample f) s = .next (settle placed)) ∧
    (s.trav.state = .dwelling ∨
        (s.trav.state = .scanning ∧ s.edge.accumulating.isSome = true ∧ s.edge.tracker.isSome = true) →
      s.std.current = none ∨ s.setup.active.bwCurve = none ∨ sourceOk f = false ∨ shutterOpen f = false →
      exec (.sample f) s = .next (settle (count .samplesRejected 1 placed)))

/-- The index marks: after the gap check, a sample that carries an index flag is checked against the nearer mark it
names; in RECKONED mode it takes the mark's position; beyond SLIP_TOL the slip is counted and alarmed with the position
before the preset, and in SCANNING the scan and its set are marked slipped. In every traverse state it then goes on as a
sample without an index flag at that position does (with no seq before it, so that no gap is counted twice), as the
statements on samples say; in RECKONED mode for a mark of at most 32767, as the range of INDEX_F and INDEX_D has it and
as it is in every state of a consistent set-up (EveryStepKeepsTheSetupConsistent). -/
def Obligations.IndexMarksAreChecked : Prop :=
  ∀ (f : SampleFrame) (s : State) (mark : Nat), s.link.lastSeq ≠ some f.seq →
    let a := s.setup.active
    let low := f.pos.toNat % 128
    let step : Int := if low < 64 then low else (low : Int) - 128
    let p := match a.positionMode with
      | .encoder => min f.pos.toNat 32767
      | .reckoned => (max 0 (min 32767 ((s.trav.pos : Int) + step))).toNat
    ((indexFFlag f = true ∧ indexDFlag f = false ∧ mark = a.indexF) ∨
      (indexFFlag f = false ∧ indexDFlag f = true ∧ mark = a.indexD) ∨
      (indexFFlag f = true ∧ indexDFlag f = true ∧
        mark = if absDiff p a.indexF ≤ absDiff p a.indexD then a.indexF else a.indexD)) →
    let pos := if a.positionMode = .reckoned then mark else p
    let linked : State := { gapChecked f s with trav := { s.trav with pos := pos } }
    let slipped := raiseAlarm .positionSlip none s.trav.scanNumber (some p) (count .positionSlips 1 linked)
    (s.trav.state = .idle ∨ s.trav.state = .parking ∨ s.trav.state = .positioning ∨ s.trav.state = .turnWait ∨
        s.trav.state = .fault →
      (absDiff p mark ≤ a.slipTol → exec (.sample f) s = .next (settle linked)) ∧
      (a.slipTol < absDiff p mark → exec (.sample f) s = .next (settle slipped))) ∧
    (let marked : State :=
       if absDiff p mark ≤ a.slipTol then linked
       else if s.trav.state = .scanning then
         { slipped with
           trav := { linked.trav with cur := s.trav.cur.map (fun c => { c with slipped := true }) }
           edge := match s.edge.accumulating with
             | some i => s.edge.set i { s.edge.get i with slipped := true }
             | none => s.edge }
       else slipped
     let plain : SampleFrame :=
       { f with flags := f.flags &&& 0xE7, pos := if a.positionMode = .encoder then f.pos else 0 }
     a.positionMode = .encoder ∨ mark ≤ 32767 →
     exec (.sample f) s = exec (.sample plain) { marked with link := { marked.link with lastSeq := none } }) ∧
    (∀ (c : CurScan) (i : SetId), s.trav.state = .scanning → s.trav.cur = some c → s.edge.accumulating = some i →
      s.edge.tracker.isSome = true → shutterOpen f = false → a.slipTol < absDiff p mark →
      exec (.sample f) s =
        .next (settle (count .samplesRejected 1
          { slipped with
            trav := { linked.trav with cur := some { c with slipped := true } }
            edge := s.edge.set i { s.edge.get i with slipped := true } })))

/-- The conversion of a sample that is not rejected: t, BW, the water part with w at most BW and w + d = BW, and the
caliper from the FINE-scale reading of its range. -/
def Obligations.ConversionFollowsTheFormulas : Prop :=
  ∀ (r : StdRecord) (curve : List Nat) (a : Setup) (f : SampleFrame) (pos : Nat),
    a.bwCurve = some curve → sourceOk f = true → shutterOpen f = true → r.cd < r.c0 →
    let n : Int := max 0 (min ((f.bwCount.toNat % 1048576 : Nat) - (r.cd : Int)) ((r.c0 : Int) - r.cd))
    let t := (n * 65536 / ((r.c0 : Int) - r.cd)).toNat
    let bw := lookup curve t
    let abs := f.irAbs.toNat % 1048576
    let ref := f.irRef.toNat % 1048576
    let w (water : List Nat) := min (lookup water (min (abs * 65536 / ref * 32768 / r.q0) 65536)) bw
    let scaled : Int := (f.calRaw.toInt - r.zc) * a.calRatio
    let v : Int := if f.flags.getLsbD 5 then (if 0 ≤ scaled then scaled / 256 else -(-scaled / 256))
      else f.calRaw.toInt - r.zf
    ∃ c : Converted, convert (some r) a f pos = some c ∧ c.pos = pos ∧ c.t = t ∧ t ≤ 65536 ∧ c.bw = bw ∧
      (∀ water, a.waterCurve = some water → 1 ≤ ref → 1 ≤ r.q0 →
        c.water = some (w water, bw - w water) ∧ w water + (bw - w water) = bw) ∧
      (a.waterCurve = none ∨ ref = 0 ∨ r.q0 = 0 → c.water = none) ∧
      (caliperContact f = true →
        c.cal = some (if v < 0 then 0 else min ((2 * (v.toNat * a.calGain) + 4096) / 8192) 65535)) ∧
      (caliperContact f = false → c.cal = none)

/-- The lookup of a curve is the point before its input and the step toward the next one, rounded to nearest with halves
away from zero, and the last point at the top of the domain. It lies between the two points around its input, equals the
point at a point's own input, and keeps the curve's direction. The inputs that the basis weight, the water and the zones
form lie in the domain. -/
def Obligations.LookupsStayBetweenThePoints : Prop :=
  (∀ (points : List Nat) (i f : Nat), i + 1 < points.length → f < 2048 →
    let lo := points.getD i 0
    let hi := points.getD (i + 1) 0
    (lo ≤ hi → lookup points (2048 * i + f) = lo + (2 * ((hi - lo) * f) + 2048) / 4096) ∧
    (hi ≤ lo → lookup points (2048 * i + f) + (2 * ((lo - hi) * f) + 2048) / 4096 = lo)) ∧
  (∀ (points : List Nat) (last : Nat), points.length = last + 1 → lookup points (2048 * last) = points.getD last 0) ∧
  (∀ (r : StdRecord) (count abs ref : Nat), transmission r count ≤ 65536 ∧ normalizedRatio r abs ref ≤ 65536) ∧
  (∀ k z : Nat, k ≤ z → k * 32768 / z ≤ 32768) ∧
  ∀ (points : List Nat),
    (∀ x, x / 2048 + 1 < points.length →
      let lo := points.getD (x / 2048) 0
      let hi := points.getD (x / 2048 + 1) 0
      min lo hi ≤ lookup points x ∧ lookup points x ≤ max lo hi) ∧
    (∀ i, i < points.length → lookup points (2048 * i) = points.getD i 0) ∧
    (∀ x y, x ≤ y → y / 2048 < points.length →
      (points.Pairwise (· ≤ ·) → lookup points x ≤ lookup points y) ∧
      (points.Pairwise (· ≥ ·) → lookup points y ≤ lookup points x))

/-- A SHEET sample that is no repeat, with no air run before it: while the leading edge is searched it lengthens the
SHEET run, whose first position becomes the leading edge when EDGE_RUN samples stand in it; from the leading edge on it
moves the trailing edge; and before the leading edge as after it the sample goes to its bin. Off the grid or behind the
fill pointer it is rejected. An accepted sample moves the fill pointer and adds to each quantity of its bin that it has
a part for and that is not saturated, each saturated one counting BIN_SATURATIONS; the set's count of samples accepted
goes up by one. Samples missing before it are counted first, here as in the statements that follow. -/
def Obligations.SheetSamplesEnterTheirBin : Prop :=
  ∀ (f : SampleFrame) (s : State) (i : SetId) (k : Tracker) (c : Converted),
    s.trav.state = .scanning → s.edge.accumulating = some i → s.edge.tracker = some k → k.air = none →
    s.link.lastSeq ≠ some f.seq → indexFFlag f = false → indexDFlag f = false →
    convert s.std.current s.setup.active f (placed f s).trav.pos = some c →
    let set := s.edge.get i
    let x := set.snap
    let tracked : Tracker :=
      if k.leading.isSome then { k with trailing := some c.pos }
      else
        let first := if k.sheetRun = 0 then c.pos else k.sheetFirst.getD c.pos
        if k.sheetRun + 1 < x.edgeRun then { k with sheetRun := k.sheetRun + 1, sheetFirst := some first }
        else { k with sheetRun := 0, sheetFirst := none, leading := some first, trailing := some c.pos }
    let with_ (e : EdgeUnit) : State := { placed f s with edge := e }
    let rejected : Prop :=
      exec (.sample f) s = .next (settle (count .samplesRejected 1 (with_ { s.edge with tracker := some tracked })))
    c.t < x.airThreshold →
    (c.pos < x.binOrigin ∨ x.binOrigin + x.binCount * x.binWidth ≤ c.pos → rejected) ∧
    (∀ (j : Nat) (b : Bin), j < x.binCount → set.bins[j]? = some b →
      x.binOrigin + j * x.binWidth ≤ c.pos → c.pos < x.binOrigin + (j + 1) * x.binWidth →
      let behind : Prop := ∃ p, k.fill = some p ∧ (set.dir = .fwd ∧ j + 1 < p ∨ set.dir = .rev ∧ p + 1 < j)
      (behind → rejected) ∧
      (¬ behind → set.accepted ≠ BitVec.allOnes 32 →
        let fill := match k.fill, set.dir with
          | none, _ => j
          | some p, .fwd => max p j
          | some p, .rev => min p j
        let wd := c.water.getD (0, 0)
        let bw := decide (b.nBw < 4095)
        let mo := c.water.isSome && decide (b.nMo < 4095)
        let ca := c.cal.isSome && decide (b.nCa < 4095)
        let b' : Bin :=
          { nBw := b.nBw + bw.toNat, sBw := if bw then b.sBw + c.bw else b.sBw
            nMo := b.nMo + mo.toNat, sW := if mo then b.sW + wd.1 else b.sW, sD := if mo then b.sD + wd.2 else b.sD
            nCa := b.nCa + ca.toNat, sC := if ca then b.sC + c.cal.getD 0 else b.sC }
        let saturated := (!bw).toNat + (c.water.isSome && !mo).toNat + (c.cal.isSome && !ca).toNat
        exec (.sample f) s =
          .next (settle (Nat.iterate (count .binSaturations 1) saturated
            (with_ { s.edge.set i { set with bins := set.bins.set j b', accepted := set.accepted + 1 } with
                     tracker := some { tracked with fill := some fill } })))))

/-- A SHEET sample that ends a long enough air run whose extent never reached BREAK_SPAN is a hole, counted and alarmed
at the run's first position; a shorter run and one that reached it are not. The sample then moves the trailing edge and
goes to its bin as any SHEET sample does: off the grid or behind the fill pointer it is rejected, else it is added. -/
def Obligations.HolesAreCountedAndAlarmed : Prop :=
  ∀ (f : SampleFrame) (s : State) (i : SetId) (k : Tracker) (c : Converted) (run : AirRun),
    s.trav.state = .scanning → s.edge.accumulating = some i → s.edge.tracker = some k → k.leading.isSome = true →
    k.air = some run → s.link.lastSeq ≠ some f.seq → indexFFlag f = false → indexDFlag f = false →
    convert s.std.current s.setup.active f (placed f s).trav.pos = some c →
    let set := s.edge.get i
    let x := set.snap
    c.t < x.airThreshold →
    let trailed : Tracker := { k with air := none, trailing := some c.pos }
    let tracked : State := { placed f s with edge := { s.edge with tracker := some trailed } }
    let noted : State :=
      if x.holeMin ≤ run.count ∧ run.reach = false then
        raiseAlarm .hole none set.scan (some run.first) (count .holes 1 tracked)
      else tracked
    let rejected : Prop := exec (.sample f) s = .next (settle (count .samplesRejected 1 noted))
    (c.pos < x.binOrigin ∨ x.binOrigin + x.binCount * x.binWidth ≤ c.pos → rejected) ∧
    (∀ (j : Nat) (b : Bin), j < x.binCount → set.bins[j]? = some b →
      x.binOrigin + j * x.binWidth ≤ c.pos → c.pos < x.binOrigin + (j + 1) * x.binWidth →
      let behind : Prop := ∃ p, k.fill = some p ∧ (set.dir = .fwd ∧ j + 1 < p ∨ set.dir = .rev ∧ p + 1 < j)
      (behind → rejected) ∧
      (¬ behind → set.accepted ≠ BitVec.allOnes 32 →
        let fill := match k.fill, set.dir with
          | none, _ => j
          | some p, .fwd => max p j
          | some p, .rev => min p j
        exec (.sample f) s =
          .next (settle (Nat.iterate (count .binSaturations 1) (b.saturations c)
            { noted with
              edge := { s.edge.set i { set with bins := set.bins.set j (b.add c), accepted := set.accepted + 1 } with
                        tracker := some { trailed with fill := some fill } } }))))

/-- AIR samples in a scan. Before the leading edge an AIR sample clears the SHEET run; after it the first starts an air
run, in span when it lies within the mapping edges less EDGE_MARGIN, and each further one extends it. The sample that
brings a run still in span to BREAK_SPAN declares a break, or declares it again from RECOVERY: the scan ends BROKEN, its
set is freed (its content then is log entry 13's), the mapping edges are dropped, the
entries armed for this scan end apply, PARK is sent, and the state becomes PARKING. ALARM, BREAK_STATE, SCAN_END,
SETUP_APPLIED and TRAVERSE_STATE are queued in this order (log entry 9). -/
def Obligations.AirRunsInTheSpanDeclareABreak : Prop :=
  ∀ (f : SampleFrame) (s : State) (i : SetId) (k : Tracker) (c : Converted),
    s.trav.state = .scanning → s.edge.accumulating = some i → s.edge.tracker = some k →
    s.link.lastSeq ≠ some f.seq → indexFFlag f = false → indexDFlag f = false →
    convert s.std.current s.setup.active f (placed f s).trav.pos = some c →
    let snap := (s.edge.get i).snap
    snap.airThreshold ≤ c.t →
    let leaves (k' : Tracker) : Prop :=
      exec (.sample f) s = .next (settle { placed f s with edge := { s.edge with tracker := some k' } })
    let expected : Bool := match s.edge.mapping with
      | some m => decide (m.front + snap.edgeMargin ≤ c.pos ∧ c.pos + snap.edgeMargin ≤ m.back)
      | none => false
    (k.leading = none → leaves { k with sheetRun := 0, sheetFirst := none }) ∧
    (k.leading.isSome = true → k.air = none → leaves { k with air := some ⟨c.pos, 1, expected, false, false⟩ }) ∧
    (∀ run : AirRun, k.leading.isSome = true → k.air = some run →
      let inSpan := run.inSpan && expected
      let reach := run.reach || decide (snap.breakSpan ≤ absDiff c.pos run.first)
      (inSpan = false ∨ reach = false ∨ run.reach = true →
        leaves { k with air := some { run with count := run.count + 1, inSpan := inSpan, reach := reach } }) ∧
      (∀ (cur : CurScan) (m : Edges), inSpan = true → reach = true → run.reach = false →
        s.trav.cur = some cur → s.edge.mapping = some m → NoLineEnable s →
        s.mon.state = .unproven ∨ s.mon.state = .sheetOn ∨ s.mon.state = .recovery →
        let air : State :=
          { placed f s with edge := { s.edge with tracker := some { k with
              air := some { run with count := run.count + 1, reach := true, sent := true } } } }
        ∃ t : State, exec (.sample f) s = .next t ∧
          t = settle (park (scanDropped .broken (breakTaken .airRun (s.edge.get i).scan (some run.first) air))) ∧
          t.mon = { s.mon with state := .brk, recovery := 0, stdInBreak := false, refWidth := some (m.back - m.front)
                               output := s.mon.output || decide (s.mon.state ≠ .recovery) } ∧
          t.edge = { s.edge.set i AccSet.free with mapping := none, jumps := 0, tracker := none } ∧
          t.ring = { s.ring with reseedPending := true, breakScan := s.trav.scanNumber } ∧
          t.trav.state = .parking ∧ t.trav.cur = none ∧ t.trav.intent = s.trav.intent ∧
          t.trav.moveTimer = some t.setup.active.moveTimeout ∧ t.trav.target = s.trav.target ∧
          t.trav.scanNumber = s.trav.scanNumber ∧
          t.link = { s.link with up := true, silence := some s.setup.active.headTimeout, lastSeq := some f.seq
                                 cmdNo := s.link.cmdNo + 1, lastMotion := some (s.link.cmdNo + 1) } ∧
          t.carriageTx = s.carriageTx ++ [⟨s.link.cmdNo + 1, .park⟩] ∧ SendersKept s t ∧
          t.trav.stdDue = (s.trav.stdDue || groupFallsDue s.trav.scanNumber s.setup.armed) ∧
          t.setup = s.setup.appliedBy (scanEndPicks s.trav.scanNumber) ∧ t.std = s.std ∧
          (s.mon.state ≠ .recovery →
            ∃ r ∈ t.alarms.records, r.kind = .brk ∧ r.state = .active ∧ r.cause = some .airRun ∧
              r.scan = (s.edge.get i).scan ∧ r.pos = some run.first ∧ r.rebreaks = 0) ∧
          (s.mon.state = .recovery →
            t.alarms = { s.alarms with records := s.alarms.records.map (fun r =>
              if r.state = .active then { r with rebreaks := min (r.rebreaks + 1) 255 } else r) }) ∧
          (t.tallies.get .breaks).value = countedValue s.setup.active.tallyMode (s.tallies.get .breaks).value 1 ∧
          (t.tallies.get .scansBroken).value =
            countedValue s.setup.active.tallyMode (s.tallies.get .scansBroken).value 1 ∧
          TalliesKept [.breaks, .scansBroken] (placed f s) t))

/-! ### Dwelling and standardizing (R21, R28 to R36) -/

/-- A SHEET sample in DWELLING adds to the sums and ends the air run; the sample that brings n to DWELL_PERIOD queues a
DWELL_AVERAGE and returns the sums to 0. An AIR sample adds to the air run alone; the one that brings it to
DWELL_BREAK_SAMPLES returns it to 0 and declares a break with cause DWELL_AIR at the dwell position, or declares it
again from RECOVERY, which empties the dwell accumulator and sends the head to park. ALARM, BREAK_STATE and
TRAVERSE_STATE are queued in this order. -/
def Obligations.DwellSamplesAreAveraged : Prop :=
  ∀ (f : SampleFrame) (s : State) (c : Converted), s.trav.state = .dwelling →
    s.link.lastSeq ≠ some f.seq → indexFFlag f = false → indexDFlag f = false →
    convert s.std.current s.setup.active f (placed f s).trav.pos = some c →
    let a := s.setup.active
    let d := s.trav.dwell
    let after (dwell : DwellAcc) : State := { placed f s with trav := { (placed f s).trav with dwell := dwell } }
    let n := d.n + 1
    let sBw := d.sBw + c.bw
    let nMo := d.nMo + (if c.water.isSome then 1 else 0)
    let sW := d.sW + (c.water.map Prod.fst).getD 0
    let sD := d.sD + (c.water.map Prod.snd).getD 0
    let nCa := d.nCa + (if c.cal.isSome then 1 else 0)
    let sC := d.sC + c.cal.getD 0
    (c.t < a.airThreshold → n < a.dwellPeriod →
      exec (.sample f) s = .next (settle (after ⟨n, sBw, nMo, sW, sD, nCa, sC, 0⟩))) ∧
    (c.t < a.airThreshold → a.dwellPeriod ≤ n →
      exec (.sample f) s =
        .next (settle (notify
          (.dwellAverage s.trav.dwellPos s.trav.scanNumber n (nearestNat sBw n)
            (if nMo = 0 ∨ sW + sD = 0 then none else some (nearestNat (sW * 10000) (sW + sD)))
            (if nCa = 0 then none else some (nearestNat sC nCa)))
          (after ⟨0, 0, 0, 0, 0, 0, 0, 0⟩)))) ∧
    (a.airThreshold ≤ c.t → d.air + 1 < a.dwellBreakSamples →
      exec (.sample f) s = .next (settle (after { d with air := d.air + 1 }))) ∧
    (a.airThreshold ≤ c.t → a.dwellBreakSamples ≤ d.air + 1 →
      (s.mon.state = .brk ∨ s.mon.state = .threading →
        exec (.sample f) s = .next (settle (after { d with air := 0 }))) ∧
      (s.mon.state = .unproven ∨ s.mon.state = .sheetOn ∨ s.mon.state = .recovery →
        let width := s.edge.mapping.map (fun m => m.back - m.front)
        let broken := breakTaken .dwellAir s.trav.scanNumber (some s.trav.dwellPos) (after { d with air := 0 })
        ∃ t : State, exec (.sample f) s = .next t ∧
          t = settle (park { broken with trav := { broken.trav with dwell := ⟨0, 0, 0, 0, 0, 0, 0, 0⟩ } }) ∧
          SendersKept s t ∧
          t.mon = { s.mon with state := .brk, recovery := 0, stdInBreak := false
                               refWidth := if s.mon.state = .recovery then width.or s.mon.refWidth else width
                               output := s.mon.output || decide (s.mon.state ≠ .recovery) } ∧
          t.edge = { s.edge with mapping := none, jumps := 0 } ∧
          t.ring = { s.ring with reseedPending := true, breakScan := s.trav.scanNumber } ∧
          t.trav = { s.trav with state := .parking, pos := (placed f s).trav.pos, dwell := ⟨0, 0, 0, 0, 0, 0, 0, 0⟩
                                 moveTimer := some a.moveTimeout } ∧
          t.link = { s.link with up := true, silence := some a.headTimeout, lastSeq := some f.seq
                                 cmdNo := s.link.cmdNo + 1, lastMotion := some (s.link.cmdNo + 1) } ∧
          t.carriageTx = s.carriageTx ++ [⟨s.link.cmdNo + 1, .park⟩] ∧ t.setup = s.setup ∧ t.std = s.std ∧
          (s.mon.state ≠ .recovery →
            ∃ r ∈ t.alarms.records, r.kind = .brk ∧ r.state = .active ∧ r.cause = some .dwellAir ∧
              r.scan = s.trav.scanNumber ∧ r.pos = some s.trav.dwellPos ∧ r.rebreaks = 0) ∧
          (s.mon.state = .recovery →
            t.alarms = { s.alarms with records := s.alarms.records.map (fun r =>
              if r.state = .active then { r with rebreaks := min (r.rebreaks + 1) 255 } else r) }) ∧
          (t.tallies.get .breaks).value = countedValue a.tallyMode (s.tallies.get .breaks).value 1 ∧
          TalliesKept [.breaks] (placed f s) t))

/-- The samples of the phases. In DARK and AIR the settling samples are passed over until the shutter is seen closed, or
open, or STD_SAMPLES have passed; counted samples are added whatever their flags, a counted one with the wrong shutter
sets the shutter-error mark, and the last counted sample begins the next phase with its command. In ZERO_F and ZERO_C
only samples of the phase's range are counted, and ZERO_F ends after a quarter of STD_SAMPLES counted or STD_SAMPLES
taken. -/
def Obligations.DarkPhaseCountsItsSamples : Prop :=
  ∀ (f : SampleFrame) (s : State) (x : StdFlight), s.trav.state = .standardizing → s.std.flight = some x →
    s.link.lastSeq ≠ some f.seq → indexFFlag f = false → indexDFlag f = false →
    let open_ := shutterOpen f
    let fine := !f.flags.getLsbD 5
    let flying (y : StdFlight) : State := { placed f s with std := { s.std with flight := some y } }
    let goesOn (y : StdFlight) : Prop := exec (.sample f) s = .next (settle (flying y))
    let begins (c : HeadCmd) (p : Phase) (y : StdFlight) : Prop :=
      exec (.sample f) s = .next (settle (issue c (flying { y with phase := p, counting := false, taken := 0 })))
    let passed : StdFlight := { x with taken := x.taken + 1, counting := decide (x.samples ≤ x.taken + 1) }
    let dark : StdFlight :=
      { x with counting := true, taken := x.taken + 1, nDark := x.nDark + 1,
               sDark := x.sDark + f.bwCount.toNat % 1048576, shutterError := x.shutterError || open_ }
    let air : StdFlight :=
      { x with counting := true, taken := x.taken + 1, nAir := x.nAir + 1,
               sAirBw := x.sAirBw + f.bwCount.toNat % 1048576, sAirAbs := x.sAirAbs + f.irAbs.toNat % 1048576,
               sAirRef := x.sAirRef + f.irRef.toNat % 1048576, shutterError := x.shutterError || !open_ }
    let zeroF : StdFlight :=
      if fine then { x with counting := true, taken := x.taken + 1, nFine := x.nFine + 1,
                            sFine := x.sFine + f.calRaw.toInt }
      else { x with taken := x.taken + 1 }
    let zeroC : StdFlight :=
      if fine then { x with taken := x.taken + 1 }
      else { x with counting := true, taken := x.taken + 1, nCoarse := x.nCoarse + 1,
                    sCoarse := x.sCoarse + f.calRaw.toInt }
    (x.phase = .dark →
      (x.counting = false → open_ = true → x.nDark < x.samples → goesOn passed) ∧
      (x.counting = true ∨ open_ = false → x.nDark + 1 < x.samples → goesOn dark) ∧
      (x.counting = true ∨ open_ = false → x.samples ≤ x.nDark + 1 → begins .air .air dark)) ∧
    (x.phase = .air →
      (x.counting = false → open_ = false → x.nAir < x.samples → goesOn passed) ∧
      (x.counting = true ∨ open_ = true → x.nAir + 1 < x.samples → goesOn air) ∧
      (x.counting = true ∨ open_ = true → x.samples ≤ x.nAir + 1 → begins (.zero .fine) .zeroF air)) ∧
    (x.phase = .zeroF →
      (zeroF.nFine < x.samples / 4 → x.taken + 1 < x.samples → goesOn zeroF) ∧
      (x.samples / 4 ≤ zeroF.nFine ∨ x.samples ≤ x.taken + 1 → begins (.zero .coarse) .zeroC zeroF)) ∧
    (x.phase = .zeroC → zeroC.nCoarse < x.samples / 4 → x.taken + 1 < x.samples → goesOn zeroC)

/-- The record of a completed standardization: the averages, q0, the drift against the current record, and the result of
the first check that fails. -/
def Obligations.RecordsFollowTheChecks : Prop :=
  ∀ (x : StdFlight) (current : Option StdRecord) (number scan : Nat), 1 ≤ x.nDark → 1 ≤ x.nAir →
    let r := makeRecord x current number scan
    r.number = number ∧ r.scan = scan ∧ r.cd = nearestNat x.sDark x.nDark ∧ r.c0 = nearestNat x.sAirBw x.nAir ∧
    r.a0 = nearestNat x.sAirAbs x.nAir ∧ r.b0 = nearestNat x.sAirRef x.nAir ∧
    (1 ≤ r.a0 → 1 ≤ r.b0 → r.q0 = r.a0 * 65536 / r.b0) ∧ (r.a0 = 0 ∨ r.b0 = 0 → r.q0 = 0) ∧
    (1 ≤ x.nFine → r.zf = nearestInt x.sFine x.nFine) ∧ (1 ≤ x.nCoarse → r.zc = nearestInt x.sCoarse x.nCoarse) ∧
    (x.nFine = 0 → r.zf = (current.map StdRecord.zf).getD 0) ∧
    (x.nCoarse = 0 → r.zc = (current.map StdRecord.zc).getD 0) ∧
    r.drift = current.map (fun p => (if p.c0 ≤ r.c0 then r.c0 - p.c0 else p.c0 - r.c0) * 10000 / p.c0) ∧
    (r.result = .failShutter ↔ x.shutterError = true) ∧
    (r.result = .failSource ↔ x.shutterError = false ∧ (r.c0 : Int) - r.cd < 1024) ∧
    (r.result = .failIr ↔ x.shutterError = false ∧ 1024 ≤ (r.c0 : Int) - r.cd ∧ (r.a0 = 0 ∨ r.b0 = 0)) ∧
    (r.result = .failDrift ∨ r.result = .drift ∨ r.result = .pass ↔
      x.shutterError = false ∧ 1024 ≤ (r.c0 : Int) - r.cd ∧ 1 ≤ r.a0 ∧ 1 ≤ r.b0) ∧
    (r.result = .failDrift → ∃ d, r.drift = some d ∧ 4 * x.driftLimit < d) ∧
    (r.result = .drift → ∃ d, r.drift = some d ∧ x.driftLimit < d ∧ d ≤ 4 * x.driftLimit) ∧
    (r.result = .pass → ∀ d, r.drift = some d → d ≤ x.driftLimit)

/-- The last sample of ZERO_C ends the standardization with STOP. A PASS or a DRIFT makes the record current, clears the
standardize-at-park flag and both counts and, unless a group became due meanwhile, standardization due, marks the
monitor when the sheet is down, and sends the head where the intent and the break state say: with MOVE to TURN_F, with
MOVE to the dwell position clamped to the turn points, or nowhere, in IDLE; a DRIFT raises STD_DRIFT. A failure raises
STD_FAIL. With a current record and below the third it sets the stale flag and the retry countdown and sends the head
likewise; without a current record a new standardization begins at once; the third leads to FAULT with head-at-park kept
and a second STOP: that this STOP is sent beside the one that ends ZERO_C is the model's reading of the spec, not its
words (log entry 21, DEDUCED). Every result queues STD_DONE, with the record, the stale flag and the failure count as
they then stand, after its ALARM notice and before the notices of where the head goes. -/
def Obligations.ResultsMoveTheFrame : Prop :=
  ∀ (f : SampleFrame) (s : State) (x : StdFlight), s.trav.state = .standardizing → s.std.flight = some x →
    x.phase = .zeroC →
    x.samples ≤ x.taken + 1 ∨ x.samples / 4 ≤ x.nCoarse + (if f.flags.getLsbD 5 then 1 else 0) →
    s.link.lastSeq ≠ some f.seq → indexFFlag f = false → indexDFlag f = false →
    let a := s.setup.active
    let r := makeRecord (x.take f) s.std.current s.std.nextNumber s.trav.scanNumber
    let sheetDown : Bool := decide (s.mon.state = .brk ∨ s.mon.state = .threading)
    let next := if s.std.nextNumber = 65535 then 1 else s.std.nextNumber + 1
    let marked := s.setup.groupMark
    let stopped := issue .stop (placed f s)
    let done (stale : Bool) (fails : Nat) (u : State) : State :=
      let v := notify (.stdDone r stale fails) u
      { v with setup := { v.setup with groupMark := false }
               trav := { v.trav with stdDue := v.trav.stdDue || marked } }
    let accepted : State :=
      { stopped with
        std := { s.std with current := some r, previous := s.std.current, stale := false, nextNumber := next,
                            retry := none, lastResult := some (r.number, r.result), flight := none }
        trav := { stopped.trav with stdDue := false, stdAtPark := false, sinceStd := 0, failCount := 0 }
        mon := { s.mon with stdInBreak := s.mon.stdInBreak || sheetDown } }
    let retries : Bool := s.std.current.isSome && decide (s.trav.failCount < 2)
    let stale : Bool := s.std.stale || s.std.current.isSome
    let failed : State :=
      { stopped with
        std := { s.std with stale := stale, nextNumber := next, retry := if retries then some 2 else s.std.retry
                            lastResult := some (r.number, r.result), flight := none }
        trav := { stopped.trav with failCount := s.trav.failCount + 1, stdDue := s.trav.stdDue && !retries
                                    stdAtPark := s.trav.stdAtPark && !retries } }
    let told := done stale (s.trav.failCount + 1)
      (raiseAlarm .stdFail none s.trav.scanNumber none (count .stdFailures 1 failed))
    let p := clampNat a.turnF a.turnD s.trav.dwellPos
    let stays : Prop := s.trav.intent = .off ∨ sheetDown = true
    let goes (u : State) : State :=
      if stays then changeState .idle u
      else if s.trav.intent = .scan then sentTo .turnF a.turnF u
      else sentTo .dwellPos p { u with trav := { u.trav with dwellPos := p } }
    let commanded (n : BitVec 8) (motion : Option (BitVec 8)) (cmds : List HeadFrame) (t : State) : Prop :=
      t.link = { s.link with up := true, silence := some a.headTimeout, lastSeq := some f.seq
                             cmdNo := s.link.cmdNo + n, lastMotion := motion } ∧
        t.carriageTx = s.carriageTx ++ ⟨s.link.cmdNo + 1, .stop⟩ :: cmds
    let moves (t : State) : Prop :=
      (stays → t.trav.state = .idle ∧ t.trav.moveTimer = none ∧ t.trav.target = s.trav.target ∧
        t.trav.dwellPos = s.trav.dwellPos ∧ t.trav.atPark = s.trav.atPark ∧ commanded 1 s.link.lastMotion [] t) ∧
      (¬ stays → t.trav.state = .positioning ∧ t.trav.moveTimer = some a.moveTimeout ∧ t.trav.atPark = false ∧
        (s.trav.intent = .scan → t.trav.target = some .turnF ∧ t.trav.dwellPos = s.trav.dwellPos ∧
          commanded 2 (some (s.link.cmdNo + 2)) [⟨s.link.cmdNo + 2, .move a.turnF⟩] t) ∧
        (s.trav.intent = .dwell → t.trav.target = some .dwellPos ∧ t.trav.dwellPos = p ∧
          commanded 2 (some (s.link.cmdNo + 2)) [⟨s.link.cmdNo + 2, .move p⟩] t))
    ∃ t : State, exec (.sample f) s = .next t ∧ SendersKept s t ∧
      t.std.lastResult = some (r.number, r.result) ∧
      t.trav.intent = s.trav.intent ∧ t.edge = s.edge ∧ t.ring = s.ring ∧ t.trav.scanNumber = s.trav.scanNumber ∧
      t.setup.groupMark = false ∧
      (r.result = .pass → t = settle (goes (done false 0 accepted))) ∧
      (r.result = .drift →
        t = settle (goes (done false 0 (raiseAlarm .stdDrift none s.trav.scanNumber none accepted)))) ∧
      (r.result = .pass ∨ r.result = .drift →
        t.std = accepted.std ∧
        t.trav.stdDue = marked ∧ t.trav.stdAtPark = false ∧ t.trav.sinceStd = 0 ∧ t.trav.failCount = 0 ∧
        t.mon = { s.mon with stdInBreak := s.mon.stdInBreak || sheetDown } ∧
        t.alarms = (if r.result = .drift then (raiseAlarm .stdDrift none s.trav.scanNumber none s).alarms
          else s.alarms) ∧
        moves t ∧ TalliesKept [] (gapChecked f s) t) ∧
      (r.result ≠ .pass → r.result ≠ .drift → t.mon = s.mon ∧ t.std.current = s.std.current ∧
        t.std.previous = s.std.previous ∧ t.std.nextNumber = next ∧ TalliesKept [.stdFailures] (gapChecked f s) t ∧
        (t.tallies.get .stdFailures).value =
          countedValue a.tallyMode (s.tallies.get .stdFailures).value 1 ∧
        t.alarms = (raiseAlarm .stdFail none s.trav.scanNumber none s).alarms ∧
        (s.std.current.isSome = true → s.trav.failCount < 2 →
          t = settle (goes told) ∧
          t.std.stale = true ∧ t.std.retry = some 2 ∧ t.std.flight = none ∧ t.trav.stdDue = marked ∧
          t.trav.stdAtPark = false ∧ t.trav.failCount = s.trav.failCount + 1 ∧ moves t) ∧
        (s.std.current = none → s.trav.failCount < 2 →
          t = settle (startStandardization told) ∧
          t.std.stale = s.std.stale ∧ t.std.retry = none ∧ t.trav.failCount = s.trav.failCount + 1 ∧
          t.trav.stdDue = (s.trav.stdDue || marked) ∧ t.trav.stdAtPark = s.trav.stdAtPark ∧
          t.trav.state = .standardizing ∧ t.trav.moveTimer = none ∧ t.trav.target = s.trav.target ∧
          t.std.flight = some
            { phase := .dark, counting := false, taken := 0, nDark := 0, sDark := 0, nAir := 0, sAirBw := 0,
              sAirAbs := 0, sAirRef := 0, nFine := 0, sFine := 0, nCoarse := 0, sCoarse := 0, shutterError := false,
              samples := t.setup.active.stdSamples, driftLimit := t.setup.active.driftLimit } ∧
          commanded 2 s.link.lastMotion [⟨s.link.cmdNo + 2, .dark⟩] t) ∧
        (s.trav.failCount = 2 →
          (let again := issue .stop told
           t = settle (changeState .fault { again with trav := { again.trav with
             dwell := ⟨0, 0, 0, 0, 0, 0, 0, 0⟩, stdDue := true } })) ∧
          t.std.stale = stale ∧ t.std.retry = s.std.retry ∧ t.std.flight = none ∧
          t.trav.stdDue = true ∧ t.trav.atPark = s.trav.atPark ∧ t.trav.failCount = 3 ∧ t.trav.state = .fault ∧
          t.trav.moveTimer = none ∧ t.trav.target = s.trav.target ∧
          commanded 2 s.link.lastMotion [⟨s.link.cmdNo + 2, .stop⟩] t))

/-! ### Arrivals (R5, R10, R12 to R16) -/

/-- Arrival at park: the move timer stops, head-at-park is set, RECKONED presets the position to PARK_POS, and the head
goes to STANDARDIZING, to POSITIONING or to IDLE by the first condition that holds. That TRAVERSE_STATE is queued before
the SETUP_APPLIED of a group that the standardization applies is the model's order (log entry 9). -/
def Obligations.ArrivalAtPark : Prop :=
  ∀ (number : BitVec 8) (pos : BitVec 16) (s : State), s.link.lastMotion = some number → s.trav.state = .parking →
    let a := s.setup.active
    let parked : State :=
      { s with
        link := { s.link with up := true, silence := some a.headTimeout }
        trav := { s.trav with atPark := true, moveTimer := none
                              pos := if a.positionMode = .encoder then min pos.toNat 32767 else a.parkPos } }
    let permits : Prop := s.mon.state ≠ .brk ∧ s.mon.state ≠ .threading
    let standardizes : Prop := s.trav.stdDue = true ∧ (s.trav.stdAtPark = true ∨ (s.trav.intent ≠ .off ∧ permits))
    let p := clampNat a.turnF a.turnD s.trav.dwellPos
    (standardizes → exec (.arrived number pos) s = .next (settle (standardizing parked))) ∧
    (¬ standardizes → s.trav.intent = .scan → permits →
      exec (.arrived number pos) s = .next (settle (sentTo .turnF a.turnF parked))) ∧
    (¬ standardizes → s.trav.intent = .dwell → permits →
      exec (.arrived number pos) s =
        .next (settle (sentTo .dwellPos p { parked with trav := { parked.trav with dwellPos := p } }))) ∧
    (¬ standardizes → s.trav.intent = .off ∨ ¬ permits →
      exec (.arrived number pos) s = .next (settle (changeState .idle parked)))

/-- A standardization begins: the retry countdown is removed, a due armed AT_STANDARDIZE group is applied as a whole,
with its SETUP_APPLIED and, when a value changed, the next setup generation, the sample count and drift limit are
captured, the sums are 0, and DARK is sent. -/
def Obligations.StandardizationStartsWithDark : Prop :=
  ∀ s : State,
    let group := s.setup.armed.filter (fun e => decide (e.item.cls = .atStandardize))
    let due : Prop := group ≠ [] ∧ ∀ e ∈ group, match e.target with
      | .next => True
      | .scan n => n.toNat < s.trav.scanNumber ∨ (n.toNat = s.trav.scanNumber ∧ s.trav.cur = none)
    let flight (a : Setup) : StdFlight :=
      { phase := .dark, counting := false, taken := 0, nDark := 0, sDark := 0, nAir := 0, sAirBw := 0,
        sAirAbs := 0, sAirRef := 0, nFine := 0, sFine := 0, nCoarse := 0, sCoarse := 0, shutterError := false,
        samples := a.stdSamples, driftLimit := a.driftLimit }
    let began (a : Setup) (u : State) : Prop :=
      startStandardization s = issue .dark { u with std := { s.std with retry := none, flight := some (flight a) } }
    (¬ due → began s.setup.active s) ∧
    (due →
      let a := group.foldl (fun a e => a.put e.item e.value) s.setup.active
      let g := if ∃ e ∈ group, s.setup.active.get e.item ≠ e.value then
          (if s.setup.generation = 65535 then 1 else s.setup.generation + 1) else s.setup.generation
      began a (notify (.setupApplied g group.length .standardize s.trav.scanNumber)
        { s with setup := { s.setup with
            active := a, generation := g,
            armed := s.setup.armed.filter (fun e => decide (e.item.cls ≠ .atStandardize)) } }))

/-- Arrival at a turn point with intent SCAN and a FREE set starts a scan away from it: the AT_SCAN_END entries with
reached targets apply, the scan number goes up, the set is claimed with its parameter snapshot and cleared bins, the far
turn point is the MOVE's target, and the state is SCANNING. With both sets occupied the head waits in TURN_WAIT; at the
top scan number a head fault is taken instead. At any other target with intent SCAN the head is sent on to the nearer
turn point. With intent DWELL it enters DWELLING with an empty accumulator at the dwell position, and is sent there from
elsewhere. A snapshot's record number without a current record, and the wait before the head fault at the top scan
number, are the model's (log entries 24 and 19). -/
def Obligations.ArrivalAtATurnPointStartsAScan : Prop :=
  ∀ (number : BitVec 8) (pos : BitVec 16) (s : State) (target : MoveTarget), s.link.lastMotion = some number →
    s.trav.state = .positioning → s.trav.target = some target →
    let a := s.setup.active
    let arrived : State :=
      { s with
        link := { s.link with up := true, silence := some a.headTimeout }
        trav := { s.trav with moveTimer := none
                              pos := if a.positionMode = .encoder then min pos.toNat 32767 else s.trav.pos } }
    let leaves (u : State) : Prop := exec (.arrived number pos) s = .next (settle u)
    let stands : Nat := match target with
      | .turnF => a.turnF
      | .turnD => a.turnD
      | .dwellPos => s.trav.dwellPos
    let starts (dir : Dir) (near : MoveTarget) : Prop :=
      (∀ i : SetId, (i = .x ∧ s.edge.x.state = .free ∨ i = .y ∧ s.edge.x.state ≠ .free ∧ s.edge.y.state = .free) →
        s.trav.scanNumber < 4294967295 → leaves (scanBegun i dir arrived)) ∧
      (s.edge.x.state ≠ .free → s.edge.y.state ≠ .free →
        leaves (changeState .turnWait { arrived with trav := { arrived.trav with target := some near } })) ∧
      (s.edge.x.state = .free ∨ s.edge.y.state = .free → s.trav.scanNumber = 4294967295 → leaves (headFault arrived))
    let p := clampNat a.turnF a.turnD s.trav.dwellPos
    (s.trav.intent = .scan →
      (stands = a.turnF → starts .fwd .turnF) ∧
      (stands ≠ a.turnF → stands = a.turnD → starts .rev .turnD) ∧
      (stands ≠ a.turnF → stands ≠ a.turnD →
        (absDiff arrived.trav.pos a.turnF ≤ absDiff arrived.trav.pos a.turnD →
          leaves (sentTo .turnF a.turnF arrived)) ∧
        (absDiff arrived.trav.pos a.turnD < absDiff arrived.trav.pos a.turnF →
          leaves (sentTo .turnD a.turnD arrived)))) ∧
    (s.trav.intent = .dwell →
      (stands = s.trav.dwellPos →
        leaves (changeState .dwelling
          { arrived with trav := { arrived.trav with dwell := ⟨0, 0, 0, 0, 0, 0, 0, 0⟩ } })) ∧
      (stands ≠ s.trav.dwellPos →
        leaves (sentTo .dwellPos p { arrived with trav := { arrived.trav with dwellPos := p } })))

/-- The scan end event of a scan that found sheet: it ends COMPLETE; its set takes the scan's edges and passes to the
finalizer. The mapping edges, unless the scan is slipped, are taken from it when they are invalid or within EDGE_TOL;
beyond it the jump is counted and alarmed at the edge that differs more, and they are held until EDGE_ACCEPT jumps stand
in a row. The break monitor is told of the scan with its width, as CompleteScansProveTheSheet says; SCANS_COMPLETE and
the scans-since-standardization count go up; the entries armed for this scan end apply, and the AT_STANDARDIZE group may
become due. The head parks after a REV scan when standardization is due, starts the next scan, with the setup as it then
stands and MOVE to the far turn point, when a set is FREE, and otherwise waits. The notices are queued in the order of
R16's steps: ALARM of a jump, SCAN_END, the monitor's, SETUP_APPLIED, TRAVERSE_STATE. -/
def Obligations.ScanEndsComplete : Prop :=
  ∀ (number : BitVec 8) (pos : BitVec 16) (s : State) (i : SetId) (k : Tracker) (c : CurScan) (lead trail : Nat),
    s.link.lastMotion = some number → s.trav.state = .scanning → s.trav.cur = some c → s.edge.accumulating = some i →
    s.edge.tracker = some k → k.leading = some lead → k.trailing = some trail → NoLineEnable s →
    s.mon.state = .unproven ∨ s.mon.state = .sheetOn ∨ s.mon.state = .recovery → s.trav.scanNumber < 4294967295 →
    let set := s.edge.get i
    let other : SetId := match i with
      | .x => .y
      | .y => .x
    let edges : ScanEdges := ⟨min lead trail, max lead trail, max lead trail - min lead trail⟩
    let told (alarms : AlarmList) : State := reportComplete edges.width { s with alarms := alarms }
    let since := min (s.trav.sinceStd + 1) 255
    let due : Bool := s.trav.stdDue || decide (s.setup.active.stdInterval ≤ since) || decide (s.std.retry = some 1) ||
      groupFallsDue s.trav.scanNumber s.setup.armed
    let a := s.setup.active
    let arrived : State :=
      { s with
        link := { s.link with up := true, silence := some a.headTimeout }
        trav := { s.trav with moveTimer := none
                              pos := if a.positionMode = .encoder then min pos.toNat 32767 else s.trav.pos } }
    let ended : State := { arrived with edge := s.edge.set i { set with edges := some edges } }
    let adopted (u : State) : State :=
      { u with edge := { u.edge with mapping := some ⟨edges.front, edges.back⟩, jumps := 0 } }
    let mapped : State := match set.slipped, s.edge.mapping with
      | true, _ => ended
      | false, none => adopted ended
      | false, some m =>
        let front := absDiff edges.front m.front
        let back := absDiff edges.back m.back
        let jumped := raiseAlarm .edgeJump none set.scan (some (if front < back then edges.back else edges.front))
          (count .edgeJumps 1 ended)
        if front ≤ set.snap.edgeTol ∧ back ≤ set.snap.edgeTol then adopted ended
        else if set.snap.edgeAccept ≤ s.edge.jumps + 1 then adopted jumped
        else { jumped with edge := { jumped.edge with jumps := s.edge.jumps + 1 } }
    let passed : AccSet :=
      { set with state := if (s.edge.get other).state = .finalizing then .waiting else .finalizing
                 edges := some edges, mapping := mapped.edge.mapping }
    let noted := reportComplete edges.width (scanEndNoted .complete
      { mapped with edge := { mapped.edge.set i passed with tracker := none } })
    let applied := scanEndApplied
      { noted with
        trav := { noted.trav with
          sinceStd := since
          stdDue := s.trav.stdDue || decide (a.stdInterval ≤ since) || decide (s.std.retry = some 1) }
        std := { s.std with retry := if s.std.retry = some 1 then none else s.std.retry.map (· - 1) } }
    let sends (c : HeadCmd) (t : State) : Prop :=
      t.link = { arrived.link with cmdNo := s.link.cmdNo + 1, lastMotion := some (s.link.cmdNo + 1) } ∧
        t.carriageTx = s.carriageTx ++ [⟨s.link.cmdNo + 1, c⟩] ∧ t.trav.moveTimer = some t.setup.active.moveTimeout
    ∃ t : State, exec (.arrived number pos) s = .next t ∧ SendersKept s t ∧ t.trav.pos = arrived.trav.pos ∧
      (t.edge.get i).state = (if (s.edge.get other).state = .finalizing then .waiting else .finalizing) ∧
      (t.edge.get i).edges = some edges ∧ (t.edge.get i).bins = set.bins ∧
      (t.edge.get i).snap = set.snap ∧ (t.edge.get i).mapping = t.edge.mapping ∧
      (set.slipped = true → t.edge.mapping = s.edge.mapping ∧ t.edge.jumps = s.edge.jumps) ∧
      (set.slipped = false → s.edge.mapping = none →
        t.edge.mapping = some ⟨edges.front, edges.back⟩ ∧ t.edge.jumps = 0) ∧
      (set.slipped = true ∨ s.edge.mapping = none →
        t.alarms = (told s.alarms).alarms ∧ TalliesKept [.scansComplete] s t) ∧
      (∀ m : Edges, set.slipped = false → s.edge.mapping = some m →
        let front := absDiff edges.front m.front
        let back := absDiff edges.back m.back
        (front ≤ set.snap.edgeTol → back ≤ set.snap.edgeTol →
          t.edge.mapping = some ⟨edges.front, edges.back⟩ ∧ t.edge.jumps = 0 ∧ t.alarms = (told s.alarms).alarms ∧
          TalliesKept [.scansComplete] s t) ∧
        (set.snap.edgeTol < front ∨ set.snap.edgeTol < back →
          (t.tallies.get .edgeJumps).value =
            countedValue s.setup.active.tallyMode (s.tallies.get .edgeJumps).value 1 ∧
          t.alarms = (told (raiseAlarm .edgeJump none set.scan
            (some (if front < back then edges.back else edges.front)) s).alarms).alarms ∧
          (set.snap.edgeAccept ≤ s.edge.jumps + 1 →
            t.edge.mapping = some ⟨edges.front, edges.back⟩ ∧ t.edge.jumps = 0) ∧
          (s.edge.jumps + 1 < set.snap.edgeAccept →
            t.edge.mapping = s.edge.mapping ∧ t.edge.jumps = s.edge.jumps + 1))) ∧
      t.trav.sinceStd = since ∧ t.trav.stdDue = due ∧ t.mon = (told s.alarms).mon ∧ t.ring = s.ring ∧
      t.setup = s.setup.appliedBy (scanEndPicks s.trav.scanNumber) ∧
      t.std = { s.std with retry := if s.std.retry = some 1 then none else s.std.retry.map (· - 1) } ∧
      t.trav.intent = s.trav.intent ∧ TalliesKept [.scansComplete, .edgeJumps] s t ∧
      (t.tallies.get .scansComplete).value =
        countedValue s.setup.active.tallyMode (s.tallies.get .scansComplete).value 1 ∧
      (c.dir = .rev → due = true →
        t = settle (park applied) ∧ sends .park t ∧ t.trav.target = s.trav.target ∧
        t.trav.state = .parking ∧ t.trav.cur = none ∧ t.trav.scanNumber = s.trav.scanNumber) ∧
      (¬ (c.dir = .rev ∧ due = true) → (s.edge.get other).state = .free →
        t = settle (scanBegun other (if c.dir = .fwd then .rev else .fwd) applied) ∧
        sends (.move (if c.dir = .fwd then t.setup.active.turnF else t.setup.active.turnD)) t ∧
        t.trav.target = some (if c.dir = .fwd then .turnF else .turnD) ∧
        t.trav.state = .scanning ∧ t.trav.scanNumber = s.trav.scanNumber + 1 ∧
        t.trav.cur = some ⟨s.trav.scanNumber + 1, if c.dir = .fwd then .rev else .fwd, false⟩ ∧
        (t.edge.get other).state = .accumulating ∧ (t.edge.get other).scan = s.trav.scanNumber + 1 ∧
        (t.edge.get other).recovery = decide (t.mon.state = .recovery) ∧
        (t.edge.get other).snap.generation = t.setup.generation ∧
        (t.edge.get other).snap.airThreshold = t.setup.active.airThreshold) ∧
      (¬ (c.dir = .rev ∧ due = true) → (s.edge.get other).state ≠ .free →
        t = settle (changeState .turnWait { applied with trav := { applied.trav with
          target := some (if c.dir = .fwd then .turnD else .turnF) } }) ∧
        t.trav.target = some (if c.dir = .fwd then .turnD else .turnF) ∧ t.link = arrived.link ∧
        t.carriageTx = s.carriageTx ∧ t.trav.moveTimer = none ∧
        t.trav.state = .turnWait ∧ t.trav.cur = none ∧ t.trav.scanNumber = s.trav.scanNumber)

/-- The scan end event of a scan without sheet: a break with cause NO_SHEET is declared, or declared again from
RECOVERY, the scan ends BROKEN once, its set is freed (its content then is log entry 13's), the entries armed for this
scan end apply, PARK is sent, and the state becomes PARKING. ALARM, BREAK_STATE,
SCAN_END, SETUP_APPLIED and TRAVERSE_STATE are queued in this order (log entry 9). -/
def Obligations.ScanEndsWithoutSheet : Prop :=
  ∀ (number : BitVec 8) (pos : BitVec 16) (s : State) (i : SetId) (k : Tracker) (c : CurScan),
    s.link.lastMotion = some number → s.trav.state = .scanning → s.trav.cur = some c → s.edge.accumulating = some i →
    s.edge.tracker = some k → k.leading = none → NoLineEnable s →
    s.mon.state = .unproven ∨ s.mon.state = .sheetOn ∨ s.mon.state = .recovery →
    let width := s.edge.mapping.map (fun m => m.back - m.front)
    let a := s.setup.active
    let arrived : State :=
      { s with
        link := { s.link with up := true, silence := some a.headTimeout }
        trav := { s.trav with moveTimer := none
                              pos := if a.positionMode = .encoder then min pos.toNat 32767 else s.trav.pos } }
    ∃ t : State, exec (.arrived number pos) s = .next t ∧
      t = settle (park (scanDropped .broken (breakTaken .noSheet c.number none arrived))) ∧
      t.link = { arrived.link with cmdNo := s.link.cmdNo + 1, lastMotion := some (s.link.cmdNo + 1) } ∧
      t.carriageTx = s.carriageTx ++ [⟨s.link.cmdNo + 1, .park⟩] ∧
      t.trav.moveTimer = some t.setup.active.moveTimeout ∧ t.trav.target = s.trav.target ∧
      t.trav.pos = arrived.trav.pos ∧ t.trav.scanNumber = s.trav.scanNumber ∧ SendersKept s t ∧
      t.mon = { s.mon with state := .brk, recovery := 0, stdInBreak := false
                           refWidth := if s.mon.state = .recovery then width.or s.mon.refWidth else width
                           output := s.mon.output || decide (s.mon.state ≠ .recovery) } ∧
      t.edge = { s.edge.set i AccSet.free with mapping := none, jumps := 0, tracker := none } ∧
      t.ring = { s.ring with reseedPending := true, breakScan := s.trav.scanNumber } ∧
      t.trav.state = .parking ∧ t.trav.cur = none ∧ t.trav.sinceStd = s.trav.sinceStd ∧
      t.trav.stdDue = (s.trav.stdDue || groupFallsDue s.trav.scanNumber s.setup.armed) ∧
      t.trav.intent = s.trav.intent ∧ t.setup = s.setup.appliedBy (scanEndPicks s.trav.scanNumber) ∧
      t.std = s.std ∧
      (t.tallies.get .scansBroken).value =
        countedValue s.setup.active.tallyMode (s.tallies.get .scansBroken).value 1 ∧
      (t.tallies.get .breaks).value = countedValue s.setup.active.tallyMode (s.tallies.get .breaks).value 1 ∧
      (s.mon.state ≠ .recovery →
        ∃ r ∈ t.alarms.records, r.kind = .brk ∧ r.state = .active ∧ r.cause = some .noSheet ∧ r.scan = c.number ∧
          r.pos = none ∧ r.rebreaks = 0) ∧
      (s.mon.state = .recovery →
        t.alarms = { s.alarms with records := s.alarms.records.map (fun r =>
          if r.state = .active then { r with rebreaks := min (r.rebreaks + 1) 255 } else r) }) ∧
      TalliesKept [.breaks, .scansBroken] s t

/-! ### Head faults (R3, R10, R23) -/

/-- A HEAD_STATUS with present clear or fault set, an expiry of the running move timer and a silence expiry outside IDLE
are head faults: STOP is issued, a scan in progress ends HEAD_FAULT, its set is freed (its content then is log entry
13's) and the entries armed for this scan end apply, a standardization in flight is abandoned, and the state becomes
FAULT with the intent kept. SCAN_END, SETUP_APPLIED and TRAVERSE_STATE are queued in this order (log entry 9). In FAULT
a head fault has no effect. A silence expiry in IDLE clears head-at-park and sets standardization due. -/
def Obligations.HeadFaultsStopTheFrame : Prop :=
  ∀ s : State, NoLineEnable s →
    let linked : State := { s with link := { s.link with up := true, silence := some s.setup.active.headTimeout } }
    let down : State :=
      { s with link := { s.link with up := false, silence := none, lastSeq := none, headPresent := false } }
    let setup := if s.trav.cur.isSome then s.setup.appliedBy (scanEndPicks s.trav.scanNumber) else s.setup
    let faults (u : State) (out : Host.Outcome State Fault Refusal) : Prop :=
      let stopped := issue .stop u
      let ended := if s.trav.cur.isSome then scanDropped .headFault stopped else stopped
      let abandoned : State :=
        if s.trav.state = .standardizing then
          { ended with std := { s.std with flight := none }, setup := { ended.setup with groupMark := false } }
        else ended
      ∃ t : State, out = .next t ∧ SendersKept s t ∧ t.trav.target = s.trav.target ∧
        t = settle (changeState .fault { abandoned with trav := { abandoned.trav with
          dwell := ⟨0, 0, 0, 0, 0, 0, 0, 0⟩, atPark := false, stdDue := true } }) ∧
        t.trav.state = .fault ∧ t.trav.intent = s.trav.intent ∧ t.trav.atPark = false ∧
        t.trav.stdDue = true ∧ t.trav.dwell = ⟨0, 0, 0, 0, 0, 0, 0, 0⟩ ∧ t.trav.cur = none ∧
        t.trav.moveTimer = none ∧ t.trav.scanNumber = s.trav.scanNumber ∧ t.trav.failCount = s.trav.failCount ∧
        t.link = { u.link with cmdNo := u.link.cmdNo + 1 } ∧
        t.carriageTx = (if u.link.up then s.carriageTx ++ [⟨u.link.cmdNo + 1, .stop⟩] else s.carriageTx) ∧
        t.std = { s.std with flight := if s.trav.state = .standardizing then none else s.std.flight } ∧
        t.mon = s.mon ∧ t.ring = s.ring ∧ t.alarms = s.alarms ∧
        t.setup = { setup with groupMark := s.setup.groupMark && decide (s.trav.state ≠ .standardizing) } ∧
        (s.trav.cur.isSome = true →
          (∀ i, s.edge.accumulating = some i → t.edge = { s.edge.set i AccSet.free with tracker := none }) ∧
          (t.tallies.get .scansFaulted).value =
            countedValue s.setup.active.tallyMode (s.tallies.get .scansFaulted).value 1 ∧
          TalliesKept [.scansFaulted] s t) ∧
        (s.trav.cur = none → t.edge = s.edge ∧ TalliesKept [] s t)
    (∀ flags : BitVec 8, flags.getLsbD 0 = false ∨ flags.getLsbD 1 = true →
      let u : State := { linked with link := { linked.link with headPresent := flags.getLsbD 0 } }
      (s.trav.state ≠ .fault → faults u (exec (.headStatus flags) s)) ∧
      (s.trav.state = .fault → exec (.headStatus flags) s = .next (settle u))) ∧
    (s.trav.moveTimer.isSome = true → s.trav.state ≠ .fault → s.trav.state ≠ .idle ∨ s.link.up = true →
      faults s (exec .moveTimerExpiry s)) ∧
    (s.link.silence.isSome = true →
      (s.trav.state = .idle →
        exec .silenceTimerExpiry s = .next { down with trav := { s.trav with atPark := false, stdDue := true } }) ∧
      (s.trav.state = .fault → exec .silenceTimerExpiry s = .next (settle down)) ∧
      (s.trav.state ≠ .idle → s.trav.state ≠ .fault → faults down (exec .silenceTimerExpiry s)))

/-! ### The machine lines and breaks (R114 to R126) -/

/-- A change of a line's level: a disabled line records it alone; an enabled line whose new level differs from its
debounced state starts its timer afresh, and one whose new level equals it stops its timer. With LINE_DEBOUNCE 0 no
timer runs: a level that differs is itself the edge, with all that the expiry of the line's timer does. -/
def Obligations.LineLevelsAreDebounced : Prop :=
  ∀ (l : Line) (level : Bool) (s : State),
    let before := match l with
      | .brk => s.mon.brk
      | .tail => s.mon.tail
    let enabled := match l with
      | .brk => s.setup.active.breakLineEnable
      | .tail => s.setup.active.tailLineEnable
    let changed (v : LineState) : State :=
      { s with mon := match l with
        | .brk => { s.mon with brk := v }
        | .tail => { s.mon with tail := v } }
    let after (v : LineState) : Host.Outcome State Fault Refusal := .next (settle (changed v))
    before.level ≠ level →
    (enabled = false → exec (.lineLevelChange l level) s = after { before with level := level }) ∧
    (enabled = true → level = before.debounced →
      exec (.lineLevelChange l level) s = after { before with level := level, timer := none }) ∧
    (enabled = true → level ≠ before.debounced → s.setup.active.lineDebounce ≠ 0 →
      exec (.lineLevelChange l level) s =
        after { before with level := level, timer := some s.setup.active.lineDebounce }) ∧
    (enabled = true → level ≠ before.debounced → s.setup.active.lineDebounce = 0 →
      exec (.lineLevelChange l level) s =
        exec (.lineDebounceExpiry l) (changed { before with level := level, timer := some 0 }))

/-- The assertion edge of the break line declares a break from UNPROVEN and SHEET_ON, declares it again from RECOVERY,
and has no other effect in BREAK and THREADING; a scan in progress ends BROKEN, its set is freed (its content then is
log entry 13's), the entries armed for this scan end apply, and a dwell ends with its accumulator emptied. From
SCANNING, TURN_WAIT, POSITIONING and DWELLING PARK is sent, and the state becomes PARKING; in the other states the head
gets no command. ALARM, BREAK_STATE, SCAN_END, SETUP_APPLIED and TRAVERSE_STATE are queued in this order (log entry 9).
That PARK becomes the last motion command where the link is DOWN too is the model's reading (log entry 11, DEDUCED). -/
def Obligations.BreakLineDeclaresABreak : Prop :=
  ∀ s : State, s.mon.brk.timer.isSome = true → s.mon.brk.level = true → s.mon.brk.debounced = false →
    NoLineEnable s → (s.trav.state = .scanning → s.trav.cur.isSome = true) →
    (s.trav.state ≠ .scanning → s.trav.cur = none) →
    let edge : LineState := { s.mon.brk with debounced := true, timer := none }
    let scanning := decide (s.trav.state = .scanning)
    let parks := decide (s.trav.state = .scanning ∨ s.trav.state = .turnWait ∨ s.trav.state = .positioning ∨
      s.trav.state = .dwelling)
    let broken := breakTaken .line s.trav.scanNumber none { s with mon := { s.mon with brk := edge } }
    let moves (t : State) : Prop :=
      t.trav.intent = s.trav.intent ∧ t.trav.scanNumber = s.trav.scanNumber ∧ t.trav.cur = none ∧
      t.trav.stdDue = (s.trav.stdDue || (scanning && groupFallsDue s.trav.scanNumber s.setup.armed)) ∧
      t.setup = (if scanning then s.setup.appliedBy (scanEndPicks s.trav.scanNumber) else s.setup) ∧
      t.edge = { (match s.edge.accumulating with
        | some i => if scanning then s.edge.set i AccSet.free else s.edge
        | none => s.edge) with mapping := none, jumps := 0
                               tracker := if scanning then none else s.edge.tracker } ∧
      t.trav.dwell = (if s.trav.state = .dwelling then ⟨0, 0, 0, 0, 0, 0, 0, 0⟩ else s.trav.dwell) ∧
      t.trav.target = s.trav.target ∧ t.trav.pos = s.trav.pos ∧ t.trav.atPark = s.trav.atPark ∧
      (if parks then
        t.trav.state = .parking ∧ t.trav.moveTimer = some t.setup.active.moveTimeout ∧
          t.link = { s.link with cmdNo := s.link.cmdNo + 1, lastMotion := some (s.link.cmdNo + 1) } ∧
          t.carriageTx = (if s.link.up then s.carriageTx ++ [⟨s.link.cmdNo + 1, .park⟩] else s.carriageTx)
      else
        t.trav.state = s.trav.state ∧ t.trav.moveTimer = s.trav.moveTimer ∧ t.link = s.link ∧
          t.carriageTx = s.carriageTx) ∧
      (t.tallies.get .scansBroken).value =
        (if scanning then countedValue s.setup.active.tallyMode (s.tallies.get .scansBroken).value 1
          else (s.tallies.get .scansBroken).value) ∧
      TalliesKept (if scanning then [.breaks, .scansBroken] else [.breaks]) s t ∧ SendersKept s t ∧
      t = settle (match s.trav.state with
        | .scanning => park (scanDropped .broken broken)
        | .turnWait | .positioning => park broken
        | .dwelling => park { broken with trav := { broken.trav with dwell := ⟨0, 0, 0, 0, 0, 0, 0, 0⟩ } }
        | .idle | .parking | .standardizing | .fault => broken)
    ((s.mon.state = .unproven ∨ s.mon.state = .sheetOn) →
      ∃ t : State, exec (.lineDebounceExpiry .brk) s = .next t ∧
        t.mon = { s.mon with state := .brk, recovery := 0, stdInBreak := false, brk := edge, output := true
                             refWidth := s.edge.mapping.map (fun m => m.back - m.front) } ∧
        t.ring = { s.ring with reseedPending := true, breakScan := s.trav.scanNumber } ∧
        (∃ r ∈ t.alarms.records, r.kind = .brk ∧ r.state = .active ∧ r.cause = some .line ∧ r.pos = none ∧
          r.scan = s.trav.scanNumber ∧ r.rebreaks = 0 ∧ r.id = s.alarms.nextId) ∧
        (t.tallies.get .breaks).value = countedValue s.setup.active.tallyMode (s.tallies.get .breaks).value 1 ∧
        t.std = s.std ∧ moves t) ∧
    (s.mon.state = .recovery →
      ∃ t : State, exec (.lineDebounceExpiry .brk) s = .next t ∧
        t.mon = { s.mon with state := .brk, recovery := 0, stdInBreak := false, brk := edge
                             refWidth := (s.edge.mapping.map (fun m => m.back - m.front)).or s.mon.refWidth } ∧
        t.ring = { s.ring with reseedPending := true, breakScan := s.trav.scanNumber } ∧
        t.alarms = { s.alarms with records := s.alarms.records.map (fun r =>
          if r.state = .active then { r with rebreaks := min (r.rebreaks + 1) 255 } else r) } ∧
        (t.tallies.get .breaks).value = countedValue s.setup.active.tallyMode (s.tallies.get .breaks).value 1 ∧
        t.std = s.std ∧ moves t) ∧
    (s.mon.state = .brk ∨ s.mon.state = .threading →
      exec (.lineDebounceExpiry .brk) s = .next (settle { s with mon := { s.mon with brk := edge } }))

/-- The tail line's assertion edge leads from BREAK to THREADING; the edge that leaves both lines DEASSERTED, and RESUME
SHEET with the break line not ASSERTED, lead to RECOVERY, which sets standardization due unless an accepted
standardization came in the break. A frame that is then in IDLE with an intent starts: to park, to STANDARDIZING at park
when standardization is due, and otherwise to POSITIONING toward TURN_F or the dwell position (with log entry 9's order
of notices on entering STANDARDIZING). Every other edge of the tail line, and every other fall of the break line,
changes the line's debounced state alone. -/
def Obligations.ThreadingAndResumeLeadToRecovery : Prop :=
  ∀ s : State,
    let a := s.setup.active
    let asserted (l : Line) : Bool := match l with
      | .brk => a.breakLineEnable && s.mon.brk.debounced
      | .tail => a.tailLineEnable && s.mon.tail.debounced
    let at_ := clampNat a.turnF a.turnD s.trav.dwellPos
    let started (u : State) : State :=
      if s.trav.state ≠ .idle ∨ s.trav.intent = .off then u
      else if s.trav.atPark = false then park u
      else if s.trav.stdDue = true ∨ s.mon.stdInBreak = false then standardizing u
      else if s.trav.intent = .scan then sentTo .turnF a.turnF u
      else sentTo .dwellPos at_ { u with trav := { u.trav with dwellPos := at_ } }
    let recovers (cause : Cause) (m : BreakMonitor) (u : State) : State :=
      let v : State :=
        { u with mon := { m with state := .recovery, recovery := 0, stdInBreak := false }
                 trav := { s.trav with stdDue := s.trav.stdDue || !s.mon.stdInBreak } }
      started (notify
        (.breakState .recovery s.mon.state cause s.trav.scanNumber s.mon.output s.mon.refWidth s.rebreaks) v)
    (s.mon.tail.timer.isSome = true → s.mon.tail.level = true → s.mon.tail.debounced = false → s.mon.state = .brk →
      exec (.lineDebounceExpiry .tail) s =
        .next (settle (notify
          (.breakState .threading .brk .tail s.trav.scanNumber s.mon.output s.mon.refWidth s.rebreaks)
          { s with mon := { s.mon with state := .threading
                                       tail := { s.mon.tail with debounced := true, timer := none } } }))) ∧
    (s.mon.tail.timer.isSome = true → s.mon.tail.level ≠ s.mon.tail.debounced →
      (s.mon.tail.level = true → s.mon.state ≠ .brk) → (s.mon.tail.level = false → s.mon.state ≠ .threading) →
      exec (.lineDebounceExpiry .tail) s =
        .next (settle { s with mon := { s.mon with tail :=
          { s.mon.tail with debounced := s.mon.tail.level, timer := none } } })) ∧
    (s.mon.brk.timer.isSome = true → s.mon.brk.level = false → s.mon.brk.debounced = true →
      s.mon.state ≠ .threading →
      exec (.lineDebounceExpiry .brk) s =
        .next (settle { s with mon := { s.mon with brk := { s.mon.brk with debounced := false, timer := none } } })) ∧
    (s.mon.tail.timer.isSome = true → s.mon.tail.level = false → s.mon.tail.debounced = true →
      s.mon.state = .threading →
      let m := { s.mon with tail := { s.mon.tail with debounced := false, timer := none } }
      (asserted .brk = false → exec (.lineDebounceExpiry .tail) s = .next (settle (recovers .tail m s))) ∧
      (asserted .brk = true → exec (.lineDebounceExpiry .tail) s = .next (settle { s with mon := m }))) ∧
    (s.mon.brk.timer.isSome = true → s.mon.brk.level = false → s.mon.brk.debounced = true →
      s.mon.state = .threading →
      let m := { s.mon with brk := { s.mon.brk with debounced := false, timer := none } }
      (asserted .tail = false → exec (.lineDebounceExpiry .brk) s = .next (settle (recovers .tail m s))) ∧
      (asserted .tail = true → exec (.lineDebounceExpiry .brk) s = .next (settle { s with mon := m }))) ∧
    (∀ (p : PortId) (tag : BitVec 8), TakesAtOnce p s →
      (s.mon.state = .unproven ∨ s.mon.state = .sheetOn ∨ s.mon.state = .recovery →
        exec (.resumeSheet p tag) s = .next (replied p tag 10 .wrongState .empty (taken p s))) ∧
      (s.mon.state = .brk ∨ s.mon.state = .threading →
        (asserted .brk = true →
          exec (.resumeSheet p tag) s = .next (replied p tag 10 .lineActive .empty (taken p s))) ∧
        (asserted .brk = false →
          exec (.resumeSheet p tag) s =
            .next (replied p tag 10 .done .empty (recovers .resume s.mon (taken p s))))))

/-- The monitor at a COMPLETE scan end: UNPROVEN becomes SHEET_ON; a good recovery scan counts; the count that reaches
RECOVERY_SCANS proves the sheet, which clears the BREAK record, with its ALARM notice, and releases the output; a scan
that is not good starts the count again. A change of the break state queues BREAK_STATE. -/
def Obligations.CompleteScansProveTheSheet : Prop :=
  ∀ (width : Nat) (s : State),
    let good : Prop := ∀ w, s.mon.refWidth = some w → w ≤ width + s.setup.active.recoveryTol
    (s.mon.state = .unproven →
      reportComplete width s =
        notify (.breakState .sheetOn .unproven .scans s.trav.scanNumber s.mon.output s.mon.refWidth s.rebreaks)
          { s with mon := { s.mon with state := .sheetOn } }) ∧
    (s.mon.state = .sheetOn ∨ s.mon.state = .brk ∨ s.mon.state = .threading → reportComplete width s = s) ∧
    (s.mon.state = .recovery → ¬ good →
      reportComplete width s = { s with mon := { s.mon with recovery := 0 } }) ∧
    (s.mon.state = .recovery → good → s.mon.recovery + 1 < s.setup.active.recoveryScans →
      reportComplete width s = { s with mon := { s.mon with recovery := s.mon.recovery + 1 } }) ∧
    (∀ older r newer, s.mon.state = .recovery → good → s.setup.active.recoveryScans ≤ s.mon.recovery + 1 →
      s.alarms.records = older ++ r :: newer → r.state = .active →
      (∀ a ∈ older ++ newer, a.state = .cleared ∧ a.id ≠ r.id) →
      let kept := if r.needed.subset r.acked then [] else [{ r with state := .cleared }]
      let told := notify (.alarm .cleared { r with state := .cleared })
        { s with mon := { s.mon with state := .sheetOn, recovery := 0, refWidth := none }
                 alarms := { s.alarms with records := older ++ { r with state := .cleared } :: newer } }
      reportComplete width s =
        notify (.breakState .sheetOn .recovery .scans s.trav.scanNumber false none 0)
          { told with mon := { told.mon with output := false }
                      alarms := { s.alarms with records := older ++ kept ++ newer } })

/-! ### The finalizer, the zones and the ring (R80 to R95, R102 to R107) -/

/-- The finalized event outside TURN_WAIT: one entry formed from the set, the ring's newest unmarked entry, the reseed
state and the break state joins the ring, an unpinned entry making room; its cells are formed bin by bin, its statistics
are those of its ON raw values, and its zones those of its filtered values; the set is freed (its content then is log
entry 13's), a WAITING set begins finalizing, the flush mark is cleared, and PROFILE_READY is queued. -/
def Obligations.FinalizedScansJoinTheRing : Prop :=
  ∀ (s : State) (i : SetId), s.edge.finalizing = some i → s.trav.state ≠ .turnWait →
    ∃ (e : RingEntry) (u : State), FinalizedAs s i e u ∧
      exec .finalized s = .next (settle (notify (readyNotice e) u))

/-- The finalized event in TURN_WAIT: the WAITING set begins finalizing and a scan starts in the freed set, away from
the turn point where the head stands, with the AT_SCAN_END entries whose targets are reached applied and MOVE to the far
turn point. The entry joins the ring as FinalizedScansJoinTheRing says; its PROFILE_READY is queued after the scan's
SETUP_APPLIED and TRAVERSE_STATE (log entry 9). That MOVE becomes the last motion command where the link is DOWN too is
the model's reading (log entry 11, DEDUCED). -/
def Obligations.FinalizedInTurnWaitStartsAScan : Prop :=
  ∀ (s : State) (i : SetId) (dir : Dir), s.edge.finalizing = some i → s.trav.state = .turnWait →
    s.trav.target = some (match dir with
      | .fwd => .turnF
      | .rev => .turnD) →
    s.trav.scanNumber < 4294967295 →
    let other : SetId := match i with
      | .x => .y
      | .y => .x
    (s.edge.get other).state = .waiting →
    let n := s.trav.scanNumber + 1
    ∃ t : State, exec .finalized s = .next t ∧ t.trav.state = .scanning ∧ t.trav.cur = some ⟨n, dir, false⟩ ∧
      t.trav.scanNumber = n ∧ t.edge.get other = { s.edge.get other with state := .finalizing } ∧
      (t.edge.get i).state = .accumulating ∧ (t.edge.get i).scan = n ∧ (t.edge.get i).dir = dir ∧
      (t.edge.get i).snap.generation = t.setup.generation ∧
      t.ring.entries.getLast?.map (fun e => e.header.scan) = some (s.edge.get i).scan ∧
      (∃ (e : RingEntry) (u : State), FinalizedAs s i e u ∧
        t = settle (notify (readyNotice e) (scanBegun i dir u))) ∧ SendersKept s t ∧
      t.trav.target = some (match dir with | .fwd => .turnD | .rev => .turnF) ∧
      (let goal := match dir with | .fwd => t.setup.active.turnD | .rev => t.setup.active.turnF
       t.carriageTx = if s.link.up then s.carriageTx ++ [⟨s.link.cmdNo + 1, .move goal⟩] else s.carriageTx) ∧
      t.link = { s.link with cmdNo := s.link.cmdNo + 1, lastMotion := some (s.link.cmdNo + 1) } ∧
      t.trav.moveTimer = some s.setup.active.moveTimeout ∧ t.mon = s.mon ∧ t.alarms = s.alarms ∧
      t.setup = s.setup.appliedBy (scanStartPicks s) ∧ t.std = s.std ∧ TalliesKept [] s t

/-- A cell of an entry: the raw value and state from the bin, the scan edges and the margins; the filtered part moves
part of the way to a reading and never past it, is HELD up to HOLD_LIMIT failed readings, and starts again at a reseed.
-/
def Obligations.CellsFollowTheReadings : Prop :=
  ∀ (snap : Snapshot) (e : ScanEdges) (prev : Option RingEntry) (kind : Kind) (j : Nat) (b : Bin),
    let lo : Int := snap.binOrigin + j * snap.binWidth
    let hi : Int := lo + snap.binWidth
    let value : Option Nat := match kind with
      | .bw => if 1 ≤ b.nBw then some (nearestNat b.sBw b.nBw) else none
      | .dw => if 1 ≤ b.nMo then some (nearestNat b.sD b.nMo) else none
      | .mo => if 1 ≤ b.nMo ∧ 1 ≤ b.sW + b.sD then some (nearestNat (b.sW * 10000) (b.sW + b.sD)) else none
      | .ca => if 1 ≤ b.nCa then some (nearestNat b.sC b.nCa) else none
    let backing := match kind with
      | .bw => b.nBw
      | .dw | .mo => b.nMo
      | .ca => b.nCa
    let state : RawState :=
      if hi - 1 < e.front ∨ (e.back : Int) < lo then .off
      else if lo < (e.front : Int) + snap.edgeMargin ∨ (e.back : Int) - snap.edgeMargin < hi - 1 then .edge
      else if backing < snap.minSamples ∨ value = none then .thin
      else .on
    let k := match kind with
      | .bw => snap.filterBw
      | .dw => snap.filterDw
      | .mo => snap.filterMo
      | .ca => snap.filterCa
    (formCell snap e true prev kind j b =
      ⟨value, state, if state = .on then ⟨.on, value, 0⟩ else ⟨.invalid, none, 0⟩⟩) ∧
    (∀ (entry : RingEntry) (c : Cell), prev = some entry → (entry.body.get kind)[j]? = some c →
      let cell := formCell snap e false prev kind j b
      cell.raw = value ∧ cell.rawState = state ∧
      (∀ v f, state = .on → value = some v → c.filt.state ≠ .invalid → c.filt.value = some f → 1 ≤ k → k ≤ 256 →
        ∃ w, cell.filt = ⟨.on, some w, 0⟩ ∧ min f v ≤ w ∧ w ≤ max f v ∧ (k = 256 → w = v) ∧
          (f ≤ v → w = f + (2 * ((v - f) * k) + 256) / 512) ∧ (v ≤ f → w + (2 * ((f - v) * k) + 256) / 512 = f)) ∧
      (state = .on → c.filt.state = .invalid → cell.filt = ⟨.on, value, 0⟩) ∧
      (∀ f, state ≠ .on → c.filt.state ≠ .invalid → c.filt.value = some f →
        cell.filt =
          if c.filt.age + 1 ≤ snap.holdLimit then ⟨.held, some f, c.filt.age + 1⟩ else ⟨.invalid, none, 0⟩) ∧
      (state ≠ .on → c.filt.state = .invalid → cell.filt = ⟨.invalid, none, 0⟩))

/-- The statistics of a list of values, and those of an entry: for each kind, over the raw values of its ON bins, and
absent when no bin is ON. -/
def Obligations.StatisticsSummarizeTheValues : Prop :=
  statsOf [] = none ∧
  (∀ values : List Nat, values ≠ [] →
    ∃ (st : Stats) (sigma : Nat), statsOf values = some st ∧ st.m = values.length ∧
      st.mean = nearestNat values.sum values.length ∧ st.sig2 = 2 * sigma ∧
      (let var := (values.map fun v => ((v : Int) - st.mean) * (v - st.mean)).sum / values.length
       (sigma : Int) * sigma ≤ var ∧ var < ((sigma : Int) + 1) * (sigma + 1)) ∧
      st.least ∈ values ∧ (∀ v ∈ values, st.least ≤ v) ∧ st.most ∈ values ∧ (∀ v ∈ values, v ≤ st.most)) ∧
  (∀ (a : AccSet) (r : Ring) (st : BreakState) (k : Kind),
    let e := formEntry a r st
    e.header.stats.get k =
      statsOf ((e.body.get k).filterMap (fun c => if c.rawState = .on then c.raw else none)))

/-- The boundaries of a zone profile are those of the curve between the mapping edges: they do not fall, begin at the
front edge and end at the back edge; a zone of no width other than the last is EMPTY, the last then holds its one
position; a centre lies in one zone at most; and every zone has as its count the number, and as its value the mean, of
the ON and HELD filtered values of the bins whose centres it holds. -/
def Obligations.ZonesSpanTheMappingEdges : Prop :=
  ∀ (a : AccSet) (body : PerKind (List Cell)) (z : ZoneProfile) (m : Edges),
    zonesOf a body = some z → a.mapping = some m → m.front ≤ m.back → a.snap.shrinkCurve.length = 17 →
    a.snap.shrinkCurve.Pairwise (· ≤ ·) → a.snap.shrinkCurve.head? = some 0 →
    a.snap.shrinkCurve.getLast? = some 32768 →
    let n := a.snap.zoneCount
    let P (k : Nat) := z.bounds.getD k 0
    let holds (k c : Nat) : Bool :=
      decide (P k ≤ c) && (decide (c < P (k + 1)) || (decide (k + 1 = n) && decide (c = P n)))
    let centre (j : Nat) := a.snap.binOrigin + j * a.snap.binWidth + a.snap.binWidth / 2
    1 ≤ n ∧ z.kind = a.snap.zoneKind ∧ z.bounds.length = n + 1 ∧ z.zones.length = n ∧ z.bounds.Pairwise (· ≤ ·) ∧
      P 0 = m.front ∧ P n = m.back ∧
      (∀ k, k ≤ n → P k = m.front + (m.back - m.front) * lookup a.snap.shrinkCurve (k * 32768 / n) / 32768) ∧
      (∀ k, k + 1 < n → P k = P (k + 1) → z.zones[k]? = some ⟨none, 0⟩) ∧
      (∀ c, P (n - 1) = P n → (holds (n - 1) c = true ↔ c = P n)) ∧
      (∀ c k l, k < n → l < n → holds k c = true → holds l c = true → k = l) ∧
      (∀ k, k < n →
        let values := (body.get a.snap.zoneKind).zipIdx.filterMap fun (c, j) =>
          if holds k (centre j) = true ∧ c.filt.state ≠ .invalid then c.filt.value else none
        z.zones[k]? = some (if values = [] then ⟨none, 0⟩
          else ⟨some (nearestNat values.sum values.length), values.length⟩))

/-! ### Requests (R11, R19, R20, R24 to R26, R40, R95 to R97, R131, R135, R141 to R148, R165, R172, R182 to R184) -/

/-- SCAN START sets the intent and starts the frame from IDLE or DWELLING; without a BW_CURVE, active or armed, it is
refused NOT_READY. Where it leads to STANDARDIZING, the order of TRAVERSE_STATE and SETUP_APPLIED is the model's (log
entry 9). -/
def Obligations.ScanStartStartsTheFrame : Prop :=
  ∀ (p : PortId) (tag : BitVec 8) (s : State), TakesAtOnce p s →
    let a := s.setup.active
    let ready : Prop := a.bwCurve.isSome = true ∨ ∃ e ∈ s.setup.armed, e.item = .bwCurve
    let permits : Prop := s.mon.state ≠ .brk ∧ s.mon.state ≠ .threading
    let wants : State := { taken p s with trav := { s.trav with intent := .scan } }
    let emptied : State := { wants with trav := { wants.trav with dwell := ⟨0, 0, 0, 0, 0, 0, 0, 0⟩ } }
    let leaves (u : State) : Prop :=
      exec (.scanStartRequest p tag) s = .next (replied p tag 1 .done .empty u)
    (¬ ready → exec (.scanStartRequest p tag) s = .next (replied p tag 1 .notReady .empty (taken p s))) ∧
    (ready →
      (s.trav.state = .idle → permits →
        (s.trav.atPark = false → leaves (park wants)) ∧
        (s.trav.atPark = true → s.trav.stdDue = true → leaves (standardizing wants)) ∧
        (s.trav.atPark = true → s.trav.stdDue = false → leaves (sentTo .turnF a.turnF wants))) ∧
      (s.trav.state = .idle → ¬ permits → leaves wants) ∧
      (s.trav.state = .dwelling →
        (absDiff s.trav.pos a.turnF ≤ absDiff s.trav.pos a.turnD → leaves (sentTo .turnF a.turnF emptied)) ∧
        (absDiff s.trav.pos a.turnD < absDiff s.trav.pos a.turnF → leaves (sentTo .turnD a.turnD emptied))) ∧
      (s.trav.state ≠ .idle → s.trav.state ≠ .dwelling → leaves wants))

/-- SCAN STOP clears the intent; a scan ends STOPPED, its set is freed (its content then is log entry 13's) and the
entries armed for this scan end apply; from SCANNING, TURN_WAIT, POSITIONING and DWELLING the head is sent to park. -/
def Obligations.ScanStopSendsTheHeadToPark : Prop :=
  ∀ (p : PortId) (tag : BitVec 8) (s : State), TakesAtOnce p s →
    let wants : State := { taken p s with trav := { s.trav with intent := .off } }
    let leaves (u : State) : Prop := exec (.scanStop p tag) s = .next (replied p tag 2 .done .empty u)
    (∀ (c : CurScan) (i : SetId), s.trav.state = .scanning → s.trav.cur = some c → s.edge.accumulating = some i →
      NoLineEnable s →
      leaves (park (scanEndApplied (notify (.scanEnd c.number c.dir .stopped) (count .scansStopped 1
        { wants with trav := { wants.trav with cur := none }
                     edge := { s.edge.set i AccSet.free with tracker := none } }))))) ∧
    (s.trav.state = .turnWait ∨ s.trav.state = .positioning → leaves (park wants)) ∧
    (s.trav.state = .dwelling →
      leaves (park { wants with trav := { wants.trav with dwell := ⟨0, 0, 0, 0, 0, 0, 0, 0⟩ } })) ∧
    (s.trav.state = .idle ∨ s.trav.state = .parking ∨ s.trav.state = .standardizing ∨ s.trav.state = .fault →
      leaves wants)

/-- DWELL AT clamps its position to the turn points, sets the intent and the dwell position, and moves the head there
from IDLE, SCANNING, TURN_WAIT, POSITIONING and a dwell elsewhere; a scan ends STOPPED, with the entries armed for its
end applied. It answers CLAMPED when that position differs. The position that CLAMPED carries, the content of the freed
set and the order of TRAVERSE_STATE and SETUP_APPLIED on entering STANDARDIZING are the model's (log entries 23, 13 and
9). -/
def Obligations.DwellAtMovesTheHead : Prop :=
  ∀ (p : PortId) (tag : BitVec 8) (at_ : BitVec 16) (s : State), TakesAtOnce p s →
    s.setup.active.turnF ≤ s.setup.active.turnD →
    let a := s.setup.active
    let q := max a.turnF (min a.turnD at_.toNat)
    let permits : Prop := s.mon.state ≠ .brk ∧ s.mon.state ≠ .threading
    let wants : State := { taken p s with trav := { s.trav with intent := .dwell, dwellPos := q } }
    let leaves (u : State) : Prop :=
      exec (.dwellAt p tag at_) s =
        .next (if q = at_.toNat then replied p tag 3 .done .empty u else replied p tag 3 .clamped (.position q) u)
    (s.trav.state = .idle → permits →
      (s.trav.atPark = false → leaves (park wants)) ∧
      (s.trav.atPark = true → s.trav.stdDue = true → leaves (standardizing wants)) ∧
      (s.trav.atPark = true → s.trav.stdDue = false → leaves (sentTo .dwellPos q wants))) ∧
    (s.trav.state = .idle → ¬ permits → leaves wants) ∧
    (∀ (c : CurScan) (i : SetId), s.trav.state = .scanning → s.trav.cur = some c → s.edge.accumulating = some i →
      NoLineEnable s → permits →
      leaves (sentTo .dwellPos q (scanEndApplied (notify (.scanEnd c.number c.dir .stopped) (count .scansStopped 1
        { wants with trav := { wants.trav with cur := none }
                     edge := { s.edge.set i AccSet.free with tracker := none } }))))) ∧
    (s.trav.state = .turnWait ∨ s.trav.state = .positioning → leaves (sentTo .dwellPos q wants)) ∧
    (s.trav.state = .dwelling → s.trav.dwellPos = q → leaves wants) ∧
    (s.trav.state = .dwelling → s.trav.dwellPos ≠ q →
      leaves (sentTo .dwellPos q { wants with trav := { wants.trav with dwell := ⟨0, 0, 0, 0, 0, 0, 0, 0⟩ } })) ∧
    (s.trav.state = .parking ∨ s.trav.state = .standardizing ∨ s.trav.state = .fault → leaves wants)

/-- STANDARDIZE NOW sets both flags in every state and moves the frame from IDLE. CLEAR FAULT leaves FAULT for PARKING
while the link is UP and is refused WRONG_STATE otherwise. The order of TRAVERSE_STATE and SETUP_APPLIED on entering
STANDARDIZING is the model's (log entry 9). -/
def Obligations.StandardizeNowAndClearFault : Prop :=
  ∀ (p : PortId) (tag : BitVec 8) (s : State), TakesAtOnce p s →
    let flagged : State := { taken p s with trav := { s.trav with stdDue := true, stdAtPark := true } }
    let leaves (u : State) : Prop := exec (.standardizeNow p tag) s = .next (replied p tag 4 .done .empty u)
    (s.trav.state = .idle → s.trav.atPark = true → leaves (standardizing flagged)) ∧
    (s.trav.state = .idle → s.trav.atPark = false → leaves (park flagged)) ∧
    (s.trav.state ≠ .idle → leaves flagged) ∧
    (s.trav.state = .fault → s.link.up = true →
      exec (.clearFault p tag) s =
        .next (replied p tag 5 .done .empty (park { taken p s with trav := { s.trav with failCount := 0 } }))) ∧
    (s.trav.state ≠ .fault ∨ s.link.up = false →
      exec (.clearFault p tag) s = .next (replied p tag 5 .wrongState .empty (taken p s)))

/-- READ STATUS, READ STANDARDIZATION, READ ALARMS and READ SETUP report the state as it stands and change nothing but
the port's engine. -/
def Obligations.ReadsReportTheStateAndChangeNothing : Prop :=
  (∀ (p : PortId) (tag : BitVec 8) (s : State), TakesAtOnce p s →
    exec (.readStatus p tag) s =
      .next (replied p tag 6 .done
        (.status
          { state := s.trav.state, intent := s.trav.intent, dwellPos := s.trav.dwellPos, pos := s.trav.pos,
            atPark := s.trav.atPark, stdDue := s.trav.stdDue, stdAtPark := s.trav.stdAtPark, linkUp := s.link.up,
            headPresent := s.link.headPresent, failCount := s.trav.failCount, sinceStd := s.trav.sinceStd,
            scanNumber := s.trav.scanNumber, cur := s.trav.cur,
            setX := (s.edge.x.state, if s.edge.x.state = .free then none else some s.edge.x.scan),
            setY := (s.edge.y.state, if s.edge.y.state = .free then none else some s.edge.y.scan),
            mapping := s.edge.mapping, breakState := s.mon.state, stdNumber := s.std.current.map StdRecord.number,
            stale := s.std.stale, generation := s.setup.generation, occupancy := s.ring.entries.length })
        (taken p s)) ∧
    exec (.readStandardization p tag) s =
      .next (replied p tag 7 .done
        (.standardization
          { current := s.std.current, previous := s.std.previous, stale := s.std.stale,
            lastResult := s.std.lastResult, retry := s.std.retry, stdDue := s.trav.stdDue,
            stdAtPark := s.trav.stdAtPark, failCount := s.trav.failCount, nextNumber := s.std.nextNumber,
            flight := s.std.flight.map (fun x =>
              ⟨x.phase, x.counting, x.counted, x.shutterError, x.samples, x.driftLimit⟩) })
        (taken p s)) ∧
    exec (.readAlarms p tag) s =
      .next (replied p tag 11 .done
        (.alarms
          { state := s.mon.state, recovery := s.mon.recovery, refWidth := s.mon.refWidth,
            stdInBreak := s.mon.stdInBreak,
            brk := ⟨s.setup.active.breakLineEnable, s.mon.brk.level, s.mon.brk.debounced, s.mon.brk.timer.isSome⟩,
            tail := ⟨s.setup.active.tailLineEnable, s.mon.tail.level, s.mon.tail.debounced, s.mon.tail.timer.isSome⟩,
            output := s.mon.output, nextId := s.alarms.nextId, records := s.alarms.records })
        (taken p s))) ∧
  (∀ (p : PortId) (tag item copy : BitVec 8) (s : State), TakesAtOnce p s →
    exec (.readSetup p tag item copy) s =
      .next (match Item.ofId item.toNat with
        | none => replied p tag 14 .malformed .empty (taken p s)
        | some i =>
          if copy = 0 then replied p tag 14 .done (.activeItem i (s.setup.active.get i) s.setup.generation) (taken p s)
          else if copy = 1 then
            match s.setup.armed.find? (fun e => decide (e.item = i)) with
            | some e => replied p tag 14 .done (.armedItem e.value e.target e.port) (taken p s)
            | none => replied p tag 14 .noData (.itemId i) (taken p s)
          else if copy = 2 then
            match (s.setup.staging.get p).find? (fun e => decide (e.item = i)) with
            | some e => replied p tag 14 .done (.stagedValue e.value) (taken p s)
            | none => replied p tag 14 .noData (.itemId i) (taken p s)
          else replied p tag 14 .malformed .empty (taken p s)))

/-- READ PROFILE is refused MALFORMED, NO_DATA or NOT_HELD in that order; otherwise it pins the chosen entry and its
engine holds the header and the segments: RAW and then FILTERED of each requested kind, over the granted bins, and then
the zones and the boundaries, each series cut into segments of 128 items that carry the index of their first, the last
segment marked. FLUSH PROFILES removes every unpinned entry, marks the others and sets the flush mark. -/
def Obligations.ProfilesAreReadAndFlushed : Prop :=
  (∀ (p : PortId) (tag : BitVec 8) (sel : ScanSelector) (kinds forms : BitVec 8) (first last : BitVec 16) (s : State),
    TakesAtOnce p s →
    let bad := kinds = 0 ∨ 16 ≤ kinds.toNat ∨ forms = 0 ∨ 8 ≤ forms.toNat ∨ last.toNat < first.toNat
    let held := s.ring.entries.filter (fun e => !e.marked)
    (bad → exec (.readProfile p tag sel kinds forms first last) s =
      .next (replied p tag 8 .malformed .empty (taken p s))) ∧
    (¬ bad → held = [] → exec (.readProfile p tag sel kinds forms first last) s =
      .next (replied p tag 8 .noData .empty (taken p s))) ∧
    (∀ n, ¬ bad → held ≠ [] → sel = .number n → (∀ e ∈ held, e.header.scan ≠ n.toNat) →
      exec (.readProfile p tag sel kinds forms first last) s =
        .next (replied p tag 8 .notHeld .empty (taken p s)))) ∧
  (∀ (p : PortId) (tag : BitVec 8) (sel : ScanSelector) (kinds forms : BitVec 8) (first last : BitVec 16) (s : State)
    (e : RingEntry), TakesAtOnce p s →
    kinds ≠ 0 → kinds.toNat < 16 → forms ≠ 0 → forms.toNat < 8 → first.toNat ≤ last.toNat →
    let held := s.ring.entries.filter (fun e => !e.marked)
    (match sel with
      | .latest => held.getLast? = some e
      | .number n => held.find? (fun e => decide (e.header.scan = n.toNat)) = some e) →
    let lo := min first.toNat (e.header.binCount - 1)
    let hi := min last.toNat (e.header.binCount - 1)
    let header (n : Nat) : TransferHeader :=
      ⟨e.header, e.zones.map ZoneProfile.kind, (e.zones.map (fun z => z.zones.length)).getD 0, lo, hi, n⟩
    let code : RespCode := if lo = first.toNat ∧ hi = last.toNat then .done else .clamped
    let asked := [Kind.bw, .dw, .mo, .ca].filter (fun k => kinds.getLsbD k.code)
    let granted (k : Kind) : List Cell := ((e.body.get k).drop lo).take (hi + 1 - lo)
    let cut {α : Type} (kind : Kind) (base : Nat) (form : List α → SegItems) (items : List α) : List Segment :=
      (List.range ((items.length + 127) / 128)).map fun n =>
        ⟨tag, kind, base + 128 * n, false, form ((items.drop (128 * n)).take 128)⟩
    ∃ segs : List Segment,
      let job : Job := ⟨.response ⟨tag, 8, true, code, .header (header segs.length)⟩ :: segs.map TxFrame.segment, true⟩
      exec (.readProfile p tag sel kinds forms first last) s =
        .next (settle
          (({ taken p s with ring := { s.ring with pins := s.ring.pins.set p (some e.header.scan) } }).onPort p
            (fun q => { q with engine := some job }))) ∧
      (∀ g ∈ segs.dropLast, g.final = false) ∧ (∀ g, segs.getLast? = some g → g.final = true) ∧
      segs.map (fun g => { g with final := false }) =
        (if forms.getLsbD 0 then asked.flatMap fun k =>
          cut k lo SegItems.raw ((granted k).map (fun c => (c.raw, c.rawState))) else []) ++
        (if forms.getLsbD 1 then asked.flatMap fun k =>
          cut k lo SegItems.filtered ((granted k).map Cell.filt) else []) ++
        (if forms.getLsbD 2 then (e.zones.map fun z =>
          cut z.kind 0 SegItems.zones z.zones ++ cut z.kind 0 SegItems.bounds z.bounds).getD [] else [])) ∧
  (∀ (p : PortId) (tag : BitVec 8) (s : State), TakesAtOnce p s →
    exec (.flushProfiles p tag) s =
      .next (replied p tag 9 .done .empty
        { taken p s with
          ring := { s.ring with
            flush := true,
            entries := (s.ring.entries.filter (fun e => decide (s.ring.pins.sp0 = some e.header.scan ∨
                s.ring.pins.sp1 = some e.header.scan ∨ s.ring.pins.sp2 = some e.header.scan))).map
              (fun e => { e with marked := true }) } }))

/-- A value offered for an item is clamped, refused or staged by the item's kind. -/
def Obligations.OfferedValuesAreCheckedByKind : Prop :=
  ∀ (i : Item),
    (∀ lo hi, i.shape = .scalar lo hi → ∀ v : BitVec 32,
      checkValue i (.scalar v) = .staged (.scalar (max lo (min hi v.toNat))) (!decide (lo ≤ v.toNat ∧ v.toNat ≤ hi))) ∧
    (∀ codes, i.shape = .enumerated codes → ∀ c : BitVec 8,
      checkValue i (.code c) = if c.toNat < codes then .staged (.code c.toNat) false else .badValue) ∧
    (∀ count top rising, i.shape = .curve count top rising → ∀ points : List (BitVec 16),
      let ns := points.map BitVec.toNat
      (points.length ≠ count → checkValue i (.curve points) = .malformed) ∧
      (points.length = count →
        ((∀ n ∈ ns, n ≤ top) ∧ ns.Pairwise (if rising then (· ≤ ·) else (· ≥ ·)) ∧
            (rising = true → ns.head? = some 0 ∧ ns.getLast? = some top) →
          checkValue i (.curve points) = .staged (.curve ns) false) ∧
        (¬ ((∀ n ∈ ns, n ≤ top) ∧ ns.Pairwise (if rising then (· ≤ ·) else (· ≥ ·)) ∧
            (rising = true → ns.head? = some 0 ∧ ns.getLast? = some top)) →
          checkValue i (.curve points) = .badValue)))

/-- WRITE SETUP stages one value in the requesting port's list, DISCARD STAGING empties that list, and neither reaches
anything else. -/
def Obligations.StagingListsBelongToTheirPort : Prop :=
  (∀ (p : PortId) (tag item : BitVec 8) (value : Offered) (s : State), TakesAtOnce p s →
    let l := s.setup.staging.get p
    let keep (code : RespCode) (body : RespBody) := replied p tag 13 code body (taken p s)
    let put (l' : List Staged) (v : SetupValue) (clamped : Bool) :=
      replied p tag 13 (if clamped then .clamped else .done) (if clamped then .stagedValue v else .empty)
        { taken p s with setup := { s.setup with staging := s.setup.staging.set p l' } }
    exec (.writeSetup p tag item value) s =
      .next (match Item.ofId item.toNat with
        | none => keep .malformed .empty
        | some i =>
          match checkValue i value with
          | .malformed => keep .malformed .empty
          | .badValue => keep .badValue .empty
          | .staged v clamped =>
            if ∃ e ∈ l, e.item = i then put (l.map (fun e => if e.item = i then ⟨i, v⟩ else e)) v clamped
            else if l.length < 32 then put (l ++ [⟨i, v⟩]) v clamped
            else keep .full (.stagingCount l.length))) ∧
  (∀ (p : PortId) (tag : BitVec 8) (s : State), TakesAtOnce p s →
    exec (.discardStaging p tag) s =
      .next (replied p tag 15 .done .empty
        { taken p s with setup := { s.setup with staging := s.setup.staging.set p [] } }))

/-- COMMIT SETUP: an empty list is answered at once; the first constraint that the prospective setup fails refuses the
commit INCONSISTENT with the offending item, an ended target scan refuses it TOO_LATE, and a commit that is taken
applies the IMMEDIATE entries of a NEXT commit with their SETUP_APPLIED, arms the others in place of the armed entries
of its items, queues one SETUP_SUPERSEDED at each other port whose entry it removed, and lets the AT_STANDARDIZE group
become due. A line enable that it changes leaves the line DEASSERTED with its timer stopped, or running when the line is
enabled while its level is asserted; with LINE_DEBOUNCE 0 that is the assertion edge itself. The order of these effects
and of the ports is the model's (log entries 7 and 8). -/
def Obligations.CommitsAreCheckedThenTaken : Prop :=
  ∀ (p : PortId) (tag : BitVec 8) (target : Target) (s : State), TakesAtOnce p s →
    let l := s.setup.staging.get p
    let armed := s.setup.armed.foldl (fun a e => a.put e.item e.value) s.setup.active
    let a := l.foldl (fun a e => a.put e.item e.value) armed
    let holds (n : Nat) : Prop := match n with
      | 1 => a.parkPos < a.turnF
      | 2 => a.turnF ≤ a.indexF
      | 3 => a.indexF < a.binOrigin
      | 4 => a.binOrigin + a.binCount * a.binWidth ≤ a.indexD
      | 5 => a.indexD ≤ a.turnD
      | 6 => a.zoneCount ≤ a.binCount
      | _ => True
    let named (n : Nat) : List Item := match n with
      | 1 => [.parkPos, .turnF]
      | 2 => [.turnF, .indexF]
      | 3 => [.indexF, .binOrigin]
      | 4 => [.binOrigin, .binWidth, .binCount, .indexD]
      | 5 => [.indexD, .turnD]
      | 6 => [.zoneCount, .binCount]
      | _ => []
    let late : Prop := match target with
      | .next => False
      | .scan n => n.toNat < s.trav.scanNumber ∨ (n.toNat = s.trav.scanNumber ∧ s.trav.cur = none)
    let once (e : Staged) : Bool := decide (target = .next ∧ e.item.cls = .immediate)
    (l = [] → exec (.commitSetup p tag target) s = .next (replied p tag 16 .done (.committed 0 0) (taken p s))) ∧
    (∀ n before item after, l ≠ [] → 1 ≤ n → n ≤ 6 → ¬ holds n → (∀ m, m < n → holds m) →
      named n = before ++ item :: after → (∃ e ∈ l, e.item = item) → (∀ i ∈ before, ∀ e ∈ l, e.item ≠ i) →
      exec (.commitSetup p tag target) s =
        .next (replied p tag 16 .inconsistent (.offender n item) (taken p s))) ∧
    (l ≠ [] → (∀ n, holds n) → late →
      exec (.commitSetup p tag target) s = .next (replied p tag 16 .tooLate .empty (taken p s))) ∧
    (l ≠ [] → (∀ n, holds n) → ¬ late → (l.map Staged.item).Nodup →
      let now := l.filter once
      let active := now.foldl (fun a e => a.put e.item e.value) s.setup.active
      let line (was on : Bool) (x : LineState) : LineState :=
        if was = on then x else ⟨x.level, false, if on && x.level then some active.lineDebounce else none⟩
      let reached (g : Target) : Bool := match g with
        | .next => true
        | .scan n => decide (n.toNat < s.trav.scanNumber ∨ (n.toNat = s.trav.scanNumber ∧ s.trav.cur = none))
      let due (armed : List Armed) : Bool :=
        let group := armed.filter (fun e => decide (e.item.cls = .atStandardize))
        decide (group ≠ []) && group.all (fun e => reached e.target)
      let lost (q : PortId) : List Item := Item.all.filter fun i =>
        decide (q ≠ p) && l.any (fun e => decide (e.item = i)) &&
          s.setup.armed.any (fun e => decide (e.item = i ∧ e.port = q))
      let tell (q : PortId) (u : State) : State :=
        if lost q = [] then u
        else queueAt (.setupSuperseded (lost q) p target
          ((lost q).map fun i => decide (target = .next ∧ i.cls = .immediate))) q u
      ∃ armed' : List Armed,
        (∀ e, e ∈ armed' ↔
          (e ∈ s.setup.armed ∧ ∀ x ∈ l, x.item ≠ e.item) ∨
            (∃ x ∈ l, once x = false ∧ e = ⟨x.item, x.value, target, p⟩)) ∧
        ((s.setup.armed.map (fun e => e.item.id)).Pairwise (· < ·) →
          (armed'.map (fun e => e.item.id)).Pairwise (· < ·)) ∧
        (let stored : State :=
          { taken p s with
            setup := { s.setup with active := active, armed := armed', staging := s.setup.staging.set p [] } }
         let applied := if now = [] then stored
           else notify (.setupApplied s.setup.generation now.length .commit s.trav.scanNumber) stored
         let told := tell .sp2 (tell .sp1 (tell .sp0 applied))
         let tested : State :=
           if (∃ e ∈ l, e.item.cls = .atStandardize) ∧ due s.setup.armed = false ∧ due armed' = true then
             if s.trav.state = .standardizing then { told with setup := { told.setup with groupMark := true } }
             else { told with trav := { told.trav with stdDue := true } }
           else told
         let lined : State :=
           { tested with mon := { tested.mon with
               brk := line s.setup.active.breakLineEnable active.breakLineEnable s.mon.brk
               tail := line s.setup.active.tailLineEnable active.tailLineEnable s.mon.tail } }
         let done (u : State) : Prop :=
           exec (.commitSetup p tag target) s =
             .next (replied p tag 16 .done (.committed now.length (l.length - now.length)) u)
         (active.lineDebounce ≠ 0 ∨
             ((active.breakLineEnable = true → s.setup.active.breakLineEnable = true ∨ s.mon.brk.level = false) ∧
               (active.tailLineEnable = true → s.setup.active.tailLineEnable = true ∨ s.mon.tail.level = false)) →
           done lined) ∧
         (active.lineDebounce = 0 → active.breakLineEnable = true → s.setup.active.breakLineEnable = false →
           s.mon.brk.level = true → active.tailLineEnable = s.setup.active.tailLineEnable →
           done (lineEdge .brk
             { tested with mon := { tested.mon with brk := { s.mon.brk with debounced := true, timer := none } } })) ∧
         (active.lineDebounce = 0 → active.tailLineEnable = true → s.setup.active.tailLineEnable = false →
           s.mon.tail.level = true → active.breakLineEnable = s.setup.active.breakLineEnable →
           done (lineEdge .tail
             { tested with mon := { tested.mon with tail := { s.mon.tail with debounced := true, timer := none } } }))))

/-- READ TALLIES captures the named tallies, clears their half-mark flags, and sets to 0 those it clears or finds
frozen; CLEAR TALLIES sets every tally to 0 with its flag clear. -/
def Obligations.TalliesAreReadAndCleared : Prop :=
  (∀ (p : PortId) (tag : BitVec 8) (mask : BitVec 16) (clear : Bool) (s : State), TakesAtOnce p s →
    let mode := s.setup.active.tallyMode
    let frozen (id : TallyId) : Bool := decide (mode = .freeze ∧ (s.tallies.get id).value = 4294967295)
    (mask = 0 ∨ 16384 ≤ mask.toNat →
      exec (.readTallies p tag mask clear) s = .next (replied p tag 18 .malformed .empty (taken p s))) ∧
    (mask ≠ 0 ∧ mask.toNat < 16384 →
      ∃ bank : TallyBank,
        (∀ id, bank.get id =
          if mask.getLsbD (id.id - 1) then
            ⟨if clear || frozen id then 0 else (s.tallies.get id).value, false⟩
          else s.tallies.get id) ∧
        exec (.readTallies p tag mask clear) s =
          .next (replied p tag 18 .done
            (.tallies mode ((TallyId.all.filter (fun id => mask.getLsbD (id.id - 1))).map fun id =>
              ⟨id, (s.tallies.get id).value, (s.tallies.get id).half, frozen id, clear || frozen id⟩))
            { taken p s with tallies := bank }))) ∧
  (∀ (p : PortId) (tag : BitVec 8) (s : State), TakesAtOnce p s →
    ∃ bank : TallyBank, (∀ id, bank.get id = ⟨0, false⟩) ∧
      exec (.clearTallies p tag) s = .next (replied p tag 19 .done .empty { taken p s with tallies := bank }))

/-- Each request row is the arrival of the frame that carries that request, and a payload that does not parse is
answered MALFORMED with its first byte, or with a free value when it has none (log entries 10 and 15). -/
def Obligations.RequestRowsAreArrivals : Prop :=
  ∀ (p : PortId) (tag : BitVec 8) (s : State),
    let arrival (r : Request) := exec (.requestArrival p tag (encodeRequest r)) s
    exec (.scanStartRequest p tag) s = arrival .scanStart ∧ exec (.scanStop p tag) s = arrival .scanStop ∧
    (∀ q, exec (.dwellAt p tag q) s = arrival (.dwellAt q)) ∧
    exec (.standardizeNow p tag) s = arrival .standardizeNow ∧ exec (.clearFault p tag) s = arrival .clearFault ∧
    exec (.readStatus p tag) s = arrival .readStatus ∧
    exec (.readStandardization p tag) s = arrival .readStandardization ∧
    (∀ sel kinds forms first last, exec (.readProfile p tag sel kinds forms first last) s =
      arrival (.readProfile sel kinds forms first last)) ∧
    exec (.flushProfiles p tag) s = arrival .flushProfiles ∧ exec (.resumeSheet p tag) s = arrival .resumeSheet ∧
    exec (.readAlarms p tag) s = arrival .readAlarms ∧
    (∀ id, exec (.acknowledgeAlarm p tag id) s = arrival (.acknowledgeAlarm id)) ∧
    (∀ item value, (Request.writeSetup item value).wellFormed = true →
      exec (.writeSetup p tag item value) s = arrival (.writeSetup item value)) ∧
    (∀ item copy, exec (.readSetup p tag item copy) s = arrival (.readSetup item copy)) ∧
    exec (.discardStaging p tag) s = arrival .discardStaging ∧
    (∀ target, exec (.commitSetup p tag target) s = arrival (.commitSetup target)) ∧
    (∀ mask, exec (.subscribe p tag mask) s = arrival (.subscribe mask)) ∧
    (∀ mask clear, exec (.readTallies p tag mask clear) s = arrival (.readTallies mask clear)) ∧
    exec (.clearTallies p tag) s = arrival .clearTallies ∧
    (∀ payload, (Instr.requestMalformed p tag payload).wellFormed = true →
      exec (.requestMalformed p tag payload) s = exec (.requestArrival p tag payload) s) ∧
    (TakesAtOnce p s →
      (∀ c fields,
        exec (.requestMalformed p tag (c :: fields)) s = .next (replied p tag c .malformed .empty (taken p s))) ∧
      (∃ code, exec (.requestMalformed p tag []) s =
        .next { (replied p tag code .malformed .empty (taken p s)) with freeCount := s.freeCount + 1 }))

/-! ### The ports (R160, R163, R164, R166, R167, R171, R173, R174) -/

/-- A request that arrives while the engine holds another joins the inbound queue, and HOLD(HOLD_TIME) is sent when the
occupancy reaches HOLD_THRESHOLD; with 8 requests waiting it is refused FULL, and forgotten when 4 FULL answers wait.
That the HOLD joins those not yet sent and replaces none is the model's (log entry 29). -/
def Obligations.ArrivalsQueueOrAreRefused : Prop :=
  ∀ (p : PortId) (tag c : BitVec 8) (fields : List Byte) (s : State),
    (s.ports.get p).linkUp = true → (s.ports.get p).engine.isSome = true →
    let q := s.ports.get p
    let a := s.setup.active
    let arrives := exec (.requestArrival p tag (c :: fields)) s
    let queued : Port := { q with inbound := q.inbound ++ [⟨tag, parseRequest (c :: fields)⟩] }
    let held : Port :=
      { queued with holdsOut := q.holdsOut ++ [a.holdTime], holdSent := true, partTimer := some a.holdTime }
    let refused : Port := { q with refusals := q.refusals ++ [⟨tag, c, false, .full, .occupancy 8⟩] }
    (q.inbound.length < 8 → q.holdSent = true ∨ q.inbound.length + 1 < a.holdThreshold →
      arrives = .next (settle { s with ports := s.ports.set p queued })) ∧
    (q.inbound.length < 8 → q.holdSent = false → a.holdThreshold ≤ q.inbound.length + 1 →
      arrives = .next (settle { s with ports := s.ports.set p held })) ∧
    (q.inbound.length = 8 → q.refusals.length < 4 →
      arrives = .next (settle { s with ports := s.ports.set p refused })) ∧
    (q.inbound.length = 8 → q.refusals.length = 4 → arrives = .next (settle s))

/-- A HOLD from the master puts the port's master hold in force, renews it or ends it; its expiry ends it, unless a HOLD
has restarted the timer while that expiry was waiting in the queue: then the hold is in force after both (R177; that the
model tells such an expiry by the queue is log entry 34). The expiry of the part hold timer sends HOLD(HOLD_TIME) again
while the occupancy calls for it and otherwise clears the hold-sent flag. That a HOLD joins those not yet sent and
replaces none is the model's (log entry 29). -/
def Obligations.HoldsPauseOnePort : Prop :=
  ∀ (p : PortId) (s : State),
    let q := s.ports.get p
    let a := s.setup.active
    let leaves (q' : Port) : Host.Outcome State Fault Refusal := .next (settle { s with ports := s.ports.set p q' })
    (∀ time : BitVec 16, q.linkUp = true →
      let waits : Prop := ∃ c ∈ s.pending, c = .masterHoldExpiry p
      (¬ waits ∨ q.masterHold = none ∨ time = 0 →
        exec (.hold p time) s = leaves { q with masterHold := if time = 0 then none else some time.toNat }) ∧
      (waits → q.masterHold.isSome = true → time ≠ 0 →
        exec (.hold p time) s = leaves { q with masterHold := some time.toNat, overtaken := true })) ∧
    (q.overtaken = false → q.masterHold.isSome = true →
      exec (.masterHoldExpiry p) s = leaves { q with masterHold := none }) ∧
    (q.overtaken = false → q.masterHold = none → exec (.masterHoldExpiry p) s = .next s) ∧
    (q.overtaken = true → exec (.masterHoldExpiry p) s = leaves { q with overtaken := false }) ∧
    (q.partTimer.isSome = true → a.holdThreshold ≤ q.inbound.length →
      exec (.partHoldExpiry p) s =
        leaves { q with holdsOut := q.holdsOut ++ [a.holdTime], partTimer := some a.holdTime }) ∧
    (q.partTimer.isSome = true → q.inbound.length < a.holdThreshold →
      exec (.partHoldExpiry p) s = leaves { q with holdSent := false, partTimer := none })

/-- A port reset empties the port's queues, engine, subscriptions and holds, releases its pin, empties its staging list
and takes it out of every alarm record; a PORT_RESET leaves the reset answer pending and lets a frame in sending finish,
but a reset answer that has not been sent is the one answer and takes the second tag; the fall of the link line loses
what is in sending. What becomes of frames formed or begun before a reset is partly the model's (log entry 17). The rise
of the line sets the link UP and does nothing else. -/
def Obligations.PortResetsClearOnePort : Prop :=
  ∀ (p : PortId) (s : State),
    let q := s.ports.get p
    let pins := s.ring.pins.set p none
    let drop (r : Alarm) : Alarm := { r with needed := r.needed.set p false, acked := r.acked.set p false }
    let ports : List PortId := [.sp0, .sp1, .sp2]
    let covered (r : Alarm) : Bool :=
      decide (r.state = .cleared) && ports.all fun x => !r.needed.get x || r.acked.get x
    let leaves (q' : Port) : State :=
      { s with
        ports := s.ports.set p q'
        ring := { s.ring with
          pins := pins
          entries := s.ring.entries.filter fun e =>
            !e.marked || ports.any fun x => decide (pins.get x = some e.header.scan) }
        setup := { s.setup with staging := s.setup.staging.set p [] }
        alarms := { s.alarms with records := (s.alarms.records.map drop).filter (fun r => !covered r) } }
    (∀ tag : BitVec 8, q.linkUp = true →
      exec (.portReset p tag) s = .next (settle (leaves
        ⟨true, [], [], none, [], false, 0, none, false, false, none, [], some tag,
          q.sending.map (fun x =>
            if x.source = .resetAnswer then { x with frame := .portReset tag } else { x with source := .orphan })⟩))) ∧
    (q.linkUp = true →
      exec (.linkLineFall p) s =
        .next (leaves ⟨false, [], [], none, [], false, 0, none, false, false, none, [], none, none⟩)) ∧
    (q.linkUp = false →
      exec (.linkLineRise p) s = .next (settle { s with ports := s.ports.set p { q with linkUp := true } }))

/-- The end of a frame's sending: the frame leaves its list; the last frame of a response or transfer idles the engine,
releases the pin of a transfer and lets the next request be taken; a marked notice clears the overrun marker unless a
drop came meanwhile. A frame begun before a port reset leaves no list (log entry 17). -/
def Obligations.SentFramesLeaveTheirList : Prop :=
  ∀ (p : PortId) (s : State) (x : Sending), (s.ports.get p).sending = some x →
    let q := s.ports.get p
    let waits : Prop := q.engine.isSome = true ∨ q.inbound = []
    let released : Ring :=
      { s.ring with
        pins := s.ring.pins.set p none
        entries := s.ring.entries.filter fun e =>
          !e.marked || [PortId.sp0, .sp1, .sp2].any fun x =>
            decide ((s.ring.pins.set p none).get x = some e.header.scan) }
    let leaves (q' : Port) : Prop :=
      exec (.frameSent p) s = .next (settle { s with ports := s.ports.set p { q' with sending := none } })
    (x.source = .resetAnswer → waits → leaves { q with resetAnswer := none }) ∧
    (x.source = .partHold → waits → leaves { q with holdsOut := q.holdsOut.drop 1 }) ∧
    (x.source = .refusal → waits → leaves { q with refusals := q.refusals.drop 1 }) ∧
    (x.source = .orphan → waits → leaves q) ∧
    (∀ n marked, x.source = .notice → x.frame = .notice n marked → waits →
      leaves { q with notices := q.notices.drop 1, overrun := q.overrun && !(marked && !x.dropped) }) ∧
    (∀ f g rest moving, x.source = .engine → q.engine = some ⟨f :: g :: rest, moving⟩ →
      leaves { q with engine := some ⟨g :: rest, moving⟩ }) ∧
    (∀ f, x.source = .engine → q.engine = some ⟨[f], false⟩ → q.inbound = [] → leaves { q with engine := none }) ∧
    (∀ f, x.source = .engine → q.engine = some ⟨[f], true⟩ → q.inbound = [] →
      exec (.frameSent p) s = .next (settle
        { s with ports := s.ports.set p { q with engine := none, sending := none }, ring := released })) ∧
    (∀ f r rest, x.source = .engine → q.engine = some ⟨[f], false⟩ → q.inbound = r :: rest →
      exec (.frameSent p) s = .next (settle (takeRequest p r
        { s with ports := s.ports.set p { q with engine := none, inbound := rest, sending := none } }))) ∧
    (∀ f r rest, x.source = .engine → q.engine = some ⟨[f], true⟩ → q.inbound = r :: rest →
      exec (.frameSent p) s = .next (settle (takeRequest p r
        { s with ports := s.ports.set p { q with engine := none, inbound := rest, sending := none }
                 ring := released })))

/-! ### What every step keeps -/

/-- The alarm list and the break state agree: at most 8 records, one ACTIVE record of kind BREAK exactly while a break
is open, and the output ASSERTED exactly then. -/
def Obligations.EveryStepKeepsAlarmsAndBreakInStep : Prop :=
  ∀ s t : State, AlarmsMatch s → step s = .next t → AlarmsMatch t

/-- A scan is in progress exactly in SCANNING, with one set gathering it; at most one set is FINALIZING, and a set waits
only for the other. -/
def Obligations.EveryStepKeepsTheScanInOneSet : Prop :=
  ∀ s t : State, ScanMatches s → FinalizerMatches s → step s = .next t → ScanMatches t ∧ FinalizerMatches t

/-- While the break state does not permit scanning the frame is in IDLE, PARKING, STANDARDIZING or FAULT; a
standardization is in flight exactly in STANDARDIZING, and the group-due mark is set only there. -/
def Obligations.EveryStepKeepsTheFrameParkedInABreak : Prop :=
  ∀ s t : State, ScanMatches s → ParkedInBreak s → FlightMatches s → step s = .next t →
    ParkedInBreak t ∧ FlightMatches t

/-- The ring holds at most 4 entries in strictly increasing scan number; each port pins an entry of the ring exactly
while its engine is in a transfer; a marked entry is pinned; and the sets hold newer scans than the ring. -/
def Obligations.EveryStepKeepsTheRingSound : Prop :=
  ∀ s t : State, ScanMatches s → FinalizerMatches s → RingSound s → step s = .next t → RingSound t

/-- The active values, the armed set and the staging lists stay in range, in order and within their bounds, and the
setup meets every cross-item constraint, alone and with the armed set. -/
def Obligations.EveryStepKeepsTheSetupConsistent : Prop :=
  ∀ s t : State, SetupSound s → step s = .next t → SetupSound t

/-- The ports' queues keep their bounds, the tallies and the traverse controller's counts and position their ranges. -/
def Obligations.EveryStepKeepsTheRanges : Prop :=
  ∀ s t : State, SetupSound s → PortsSound s → TalliesInRange s → TraverseInRange s → step s = .next t →
    PortsSound t ∧ TalliesInRange t ∧ TraverseInRange t
end

