-- ==== Sys2Proof/Laws/Frames.lean ====
section
/-! SUPPORT. The fields of a frame read back as they were written (chapter 11). -/

namespace Sys2Proof

/-- The bytes of a two-byte field read back. -/
@[simp] theorem le16_bytes16 (v : BitVec 16) : le16 (v.extractLsb' 0 8) (v.extractLsb' 8 8) = v := by
  apply BitVec.eq_of_getLsbD_eq
  intro i h
  refine BitVec.getLsbD_append.trans ?_
  simp only [BitVec.getLsbD_extractLsb']
  split
  · simp [*]
  · simp [show i - 8 < 8 by omega, show 8 + (i - 8) = i by omega]

/-- The bytes of a three-byte field read back. -/
@[simp] theorem le24_bytes24 (v : BitVec 24) :
    le24 (v.extractLsb' 0 8) (v.extractLsb' 8 8) (v.extractLsb' 16 8) = v := by
  apply BitVec.eq_of_getLsbD_eq
  intro i h
  refine BitVec.getLsbD_append.trans ?_
  split
  · refine BitVec.getLsbD_append.trans ?_
    simp only [BitVec.getLsbD_extractLsb']
    split
    · simp [*]
    · simp [show i - 8 < 8 by omega, show 8 + (i - 8) = i by omega]
  · simp [show i - 16 < 8 by omega, show 16 + (i - 16) = i by omega]

/-- The bytes of a four-byte field read back. -/
@[simp] theorem le32_bytes32 (v : BitVec 32) :
    le32 (v.extractLsb' 0 8) (v.extractLsb' 8 8) (v.extractLsb' 16 8) (v.extractLsb' 24 8) = v := by
  apply BitVec.eq_of_getLsbD_eq
  intro i h
  refine BitVec.getLsbD_append.trans ?_
  split
  · refine BitVec.getLsbD_append.trans ?_
    split
    · refine BitVec.getLsbD_append.trans ?_
      simp only [BitVec.getLsbD_extractLsb']
      split
      · simp [*]
      · simp [show i - 8 < 8 by omega, show 8 + (i - 8) = i by omega]
    · simp [show i - 16 < 8 by omega, show 16 + (i - 16) = i by omega]
  · simp [show i - 24 < 8 by omega, show 24 + (i - 24) = i by omega]

end Sys2Proof
end

