-- ==== Sys2Proof/Laws/State.lean ====
section
/-! SUPPORT. What each update of the state leaves in each of its fields, so that no later proof unfolds one. -/

namespace Sys2Proof.Machine

variable (s : State)

@[simp] theorem State.onTrav_link (f : Traverse → Traverse) : (s.onTrav f).link = s.link := rfl
@[simp] theorem State.onTrav_trav (f : Traverse → Traverse) : (s.onTrav f).trav = f s.trav := rfl
@[simp] theorem State.onTrav_std (f : Traverse → Traverse) : (s.onTrav f).std = s.std := rfl
@[simp] theorem State.onTrav_edge (f : Traverse → Traverse) : (s.onTrav f).edge = s.edge := rfl
@[simp] theorem State.onTrav_ring (f : Traverse → Traverse) : (s.onTrav f).ring = s.ring := rfl
@[simp] theorem State.onTrav_mon (f : Traverse → Traverse) : (s.onTrav f).mon = s.mon := rfl
@[simp] theorem State.onTrav_alarms (f : Traverse → Traverse) : (s.onTrav f).alarms = s.alarms := rfl
@[simp] theorem State.onTrav_setup (f : Traverse → Traverse) : (s.onTrav f).setup = s.setup := rfl
@[simp] theorem State.onTrav_ports (f : Traverse → Traverse) : (s.onTrav f).ports = s.ports := rfl
@[simp] theorem State.onTrav_tallies (f : Traverse → Traverse) : (s.onTrav f).tallies = s.tallies := rfl
@[simp] theorem State.onTrav_carriageTx (f : Traverse → Traverse) : (s.onTrav f).carriageTx = s.carriageTx := rfl
@[simp] theorem State.onTrav_freeCount (f : Traverse → Traverse) : (s.onTrav f).freeCount = s.freeCount := rfl
@[simp] theorem State.onTrav_pending (f : Traverse → Traverse) : (s.onTrav f).pending = s.pending := rfl

@[simp] theorem State.onStd_link (f : StdUnit → StdUnit) : (s.onStd f).link = s.link := rfl
@[simp] theorem State.onStd_trav (f : StdUnit → StdUnit) : (s.onStd f).trav = s.trav := rfl
@[simp] theorem State.onStd_std (f : StdUnit → StdUnit) : (s.onStd f).std = f s.std := rfl
@[simp] theorem State.onStd_edge (f : StdUnit → StdUnit) : (s.onStd f).edge = s.edge := rfl
@[simp] theorem State.onStd_ring (f : StdUnit → StdUnit) : (s.onStd f).ring = s.ring := rfl
@[simp] theorem State.onStd_mon (f : StdUnit → StdUnit) : (s.onStd f).mon = s.mon := rfl
@[simp] theorem State.onStd_alarms (f : StdUnit → StdUnit) : (s.onStd f).alarms = s.alarms := rfl
@[simp] theorem State.onStd_setup (f : StdUnit → StdUnit) : (s.onStd f).setup = s.setup := rfl
@[simp] theorem State.onStd_ports (f : StdUnit → StdUnit) : (s.onStd f).ports = s.ports := rfl
@[simp] theorem State.onStd_tallies (f : StdUnit → StdUnit) : (s.onStd f).tallies = s.tallies := rfl
@[simp] theorem State.onStd_carriageTx (f : StdUnit → StdUnit) : (s.onStd f).carriageTx = s.carriageTx := rfl
@[simp] theorem State.onStd_freeCount (f : StdUnit → StdUnit) : (s.onStd f).freeCount = s.freeCount := rfl
@[simp] theorem State.onStd_pending (f : StdUnit → StdUnit) : (s.onStd f).pending = s.pending := rfl

@[simp] theorem State.onEdge_link (f : EdgeUnit → EdgeUnit) : (s.onEdge f).link = s.link := rfl
@[simp] theorem State.onEdge_trav (f : EdgeUnit → EdgeUnit) : (s.onEdge f).trav = s.trav := rfl
@[simp] theorem State.onEdge_std (f : EdgeUnit → EdgeUnit) : (s.onEdge f).std = s.std := rfl
@[simp] theorem State.onEdge_edge (f : EdgeUnit → EdgeUnit) : (s.onEdge f).edge = f s.edge := rfl
@[simp] theorem State.onEdge_ring (f : EdgeUnit → EdgeUnit) : (s.onEdge f).ring = s.ring := rfl
@[simp] theorem State.onEdge_mon (f : EdgeUnit → EdgeUnit) : (s.onEdge f).mon = s.mon := rfl
@[simp] theorem State.onEdge_alarms (f : EdgeUnit → EdgeUnit) : (s.onEdge f).alarms = s.alarms := rfl
@[simp] theorem State.onEdge_setup (f : EdgeUnit → EdgeUnit) : (s.onEdge f).setup = s.setup := rfl
@[simp] theorem State.onEdge_ports (f : EdgeUnit → EdgeUnit) : (s.onEdge f).ports = s.ports := rfl
@[simp] theorem State.onEdge_tallies (f : EdgeUnit → EdgeUnit) : (s.onEdge f).tallies = s.tallies := rfl
@[simp] theorem State.onEdge_carriageTx (f : EdgeUnit → EdgeUnit) : (s.onEdge f).carriageTx = s.carriageTx := rfl
@[simp] theorem State.onEdge_freeCount (f : EdgeUnit → EdgeUnit) : (s.onEdge f).freeCount = s.freeCount := rfl
@[simp] theorem State.onEdge_pending (f : EdgeUnit → EdgeUnit) : (s.onEdge f).pending = s.pending := rfl

@[simp] theorem State.onSet_link (i : SetId) (f : AccSet → AccSet) : (s.onSet i f).link = s.link := rfl
@[simp] theorem State.onSet_trav (i : SetId) (f : AccSet → AccSet) : (s.onSet i f).trav = s.trav := rfl
@[simp] theorem State.onSet_std (i : SetId) (f : AccSet → AccSet) : (s.onSet i f).std = s.std := rfl
@[simp] theorem State.onSet_edge (i : SetId) (f : AccSet → AccSet) : (s.onSet i f).edge = s.edge.set i (f (s.edge.get i)) := rfl
@[simp] theorem State.onSet_ring (i : SetId) (f : AccSet → AccSet) : (s.onSet i f).ring = s.ring := rfl
@[simp] theorem State.onSet_mon (i : SetId) (f : AccSet → AccSet) : (s.onSet i f).mon = s.mon := rfl
@[simp] theorem State.onSet_alarms (i : SetId) (f : AccSet → AccSet) : (s.onSet i f).alarms = s.alarms := rfl
@[simp] theorem State.onSet_setup (i : SetId) (f : AccSet → AccSet) : (s.onSet i f).setup = s.setup := rfl
@[simp] theorem State.onSet_ports (i : SetId) (f : AccSet → AccSet) : (s.onSet i f).ports = s.ports := rfl
@[simp] theorem State.onSet_tallies (i : SetId) (f : AccSet → AccSet) : (s.onSet i f).tallies = s.tallies := rfl
@[simp] theorem State.onSet_carriageTx (i : SetId) (f : AccSet → AccSet) : (s.onSet i f).carriageTx = s.carriageTx := rfl
@[simp] theorem State.onSet_freeCount (i : SetId) (f : AccSet → AccSet) : (s.onSet i f).freeCount = s.freeCount := rfl
@[simp] theorem State.onSet_pending (i : SetId) (f : AccSet → AccSet) : (s.onSet i f).pending = s.pending := rfl

@[simp] theorem State.onMon_link (f : BreakMonitor → BreakMonitor) : (s.onMon f).link = s.link := rfl
@[simp] theorem State.onMon_trav (f : BreakMonitor → BreakMonitor) : (s.onMon f).trav = s.trav := rfl
@[simp] theorem State.onMon_std (f : BreakMonitor → BreakMonitor) : (s.onMon f).std = s.std := rfl
@[simp] theorem State.onMon_edge (f : BreakMonitor → BreakMonitor) : (s.onMon f).edge = s.edge := rfl
@[simp] theorem State.onMon_ring (f : BreakMonitor → BreakMonitor) : (s.onMon f).ring = s.ring := rfl
@[simp] theorem State.onMon_mon (f : BreakMonitor → BreakMonitor) : (s.onMon f).mon = f s.mon := rfl
@[simp] theorem State.onMon_alarms (f : BreakMonitor → BreakMonitor) : (s.onMon f).alarms = s.alarms := rfl
@[simp] theorem State.onMon_setup (f : BreakMonitor → BreakMonitor) : (s.onMon f).setup = s.setup := rfl
@[simp] theorem State.onMon_ports (f : BreakMonitor → BreakMonitor) : (s.onMon f).ports = s.ports := rfl
@[simp] theorem State.onMon_tallies (f : BreakMonitor → BreakMonitor) : (s.onMon f).tallies = s.tallies := rfl
@[simp] theorem State.onMon_carriageTx (f : BreakMonitor → BreakMonitor) : (s.onMon f).carriageTx = s.carriageTx := rfl
@[simp] theorem State.onMon_freeCount (f : BreakMonitor → BreakMonitor) : (s.onMon f).freeCount = s.freeCount := rfl
@[simp] theorem State.onMon_pending (f : BreakMonitor → BreakMonitor) : (s.onMon f).pending = s.pending := rfl

@[simp] theorem State.onLine_link (l : Line) (f : LineState → LineState) : (s.onLine l f).link = s.link := rfl
@[simp] theorem State.onLine_trav (l : Line) (f : LineState → LineState) : (s.onLine l f).trav = s.trav := rfl
@[simp] theorem State.onLine_std (l : Line) (f : LineState → LineState) : (s.onLine l f).std = s.std := rfl
@[simp] theorem State.onLine_edge (l : Line) (f : LineState → LineState) : (s.onLine l f).edge = s.edge := rfl
@[simp] theorem State.onLine_ring (l : Line) (f : LineState → LineState) : (s.onLine l f).ring = s.ring := rfl
@[simp] theorem State.onLine_mon (l : Line) (f : LineState → LineState) : (s.onLine l f).mon = s.mon.setLine l (f (s.mon.line l)) := rfl
@[simp] theorem State.onLine_alarms (l : Line) (f : LineState → LineState) : (s.onLine l f).alarms = s.alarms := rfl
@[simp] theorem State.onLine_setup (l : Line) (f : LineState → LineState) : (s.onLine l f).setup = s.setup := rfl
@[simp] theorem State.onLine_ports (l : Line) (f : LineState → LineState) : (s.onLine l f).ports = s.ports := rfl
@[simp] theorem State.onLine_tallies (l : Line) (f : LineState → LineState) : (s.onLine l f).tallies = s.tallies := rfl
@[simp] theorem State.onLine_carriageTx (l : Line) (f : LineState → LineState) : (s.onLine l f).carriageTx = s.carriageTx := rfl
@[simp] theorem State.onLine_freeCount (l : Line) (f : LineState → LineState) : (s.onLine l f).freeCount = s.freeCount := rfl
@[simp] theorem State.onLine_pending (l : Line) (f : LineState → LineState) : (s.onLine l f).pending = s.pending := rfl

@[simp] theorem State.onAlarms_link (f : List Alarm → List Alarm) : (s.onAlarms f).link = s.link := rfl
@[simp] theorem State.onAlarms_trav (f : List Alarm → List Alarm) : (s.onAlarms f).trav = s.trav := rfl
@[simp] theorem State.onAlarms_std (f : List Alarm → List Alarm) : (s.onAlarms f).std = s.std := rfl
@[simp] theorem State.onAlarms_edge (f : List Alarm → List Alarm) : (s.onAlarms f).edge = s.edge := rfl
@[simp] theorem State.onAlarms_ring (f : List Alarm → List Alarm) : (s.onAlarms f).ring = s.ring := rfl
@[simp] theorem State.onAlarms_mon (f : List Alarm → List Alarm) : (s.onAlarms f).mon = s.mon := rfl
@[simp] theorem State.onAlarms_alarms (f : List Alarm → List Alarm) : (s.onAlarms f).alarms = { s.alarms with records := f s.alarms.records } := rfl
@[simp] theorem State.onAlarms_setup (f : List Alarm → List Alarm) : (s.onAlarms f).setup = s.setup := rfl
@[simp] theorem State.onAlarms_ports (f : List Alarm → List Alarm) : (s.onAlarms f).ports = s.ports := rfl
@[simp] theorem State.onAlarms_tallies (f : List Alarm → List Alarm) : (s.onAlarms f).tallies = s.tallies := rfl
@[simp] theorem State.onAlarms_carriageTx (f : List Alarm → List Alarm) : (s.onAlarms f).carriageTx = s.carriageTx := rfl
@[simp] theorem State.onAlarms_freeCount (f : List Alarm → List Alarm) : (s.onAlarms f).freeCount = s.freeCount := rfl
@[simp] theorem State.onAlarms_pending (f : List Alarm → List Alarm) : (s.onAlarms f).pending = s.pending := rfl

@[simp] theorem State.onSetup_link (f : SetupStore → SetupStore) : (s.onSetup f).link = s.link := rfl
@[simp] theorem State.onSetup_trav (f : SetupStore → SetupStore) : (s.onSetup f).trav = s.trav := rfl
@[simp] theorem State.onSetup_std (f : SetupStore → SetupStore) : (s.onSetup f).std = s.std := rfl
@[simp] theorem State.onSetup_edge (f : SetupStore → SetupStore) : (s.onSetup f).edge = s.edge := rfl
@[simp] theorem State.onSetup_ring (f : SetupStore → SetupStore) : (s.onSetup f).ring = s.ring := rfl
@[simp] theorem State.onSetup_mon (f : SetupStore → SetupStore) : (s.onSetup f).mon = s.mon := rfl
@[simp] theorem State.onSetup_alarms (f : SetupStore → SetupStore) : (s.onSetup f).alarms = s.alarms := rfl
@[simp] theorem State.onSetup_setup (f : SetupStore → SetupStore) : (s.onSetup f).setup = f s.setup := rfl
@[simp] theorem State.onSetup_ports (f : SetupStore → SetupStore) : (s.onSetup f).ports = s.ports := rfl
@[simp] theorem State.onSetup_tallies (f : SetupStore → SetupStore) : (s.onSetup f).tallies = s.tallies := rfl
@[simp] theorem State.onSetup_carriageTx (f : SetupStore → SetupStore) : (s.onSetup f).carriageTx = s.carriageTx := rfl
@[simp] theorem State.onSetup_freeCount (f : SetupStore → SetupStore) : (s.onSetup f).freeCount = s.freeCount := rfl
@[simp] theorem State.onSetup_pending (f : SetupStore → SetupStore) : (s.onSetup f).pending = s.pending := rfl

@[simp] theorem State.setStaging_link (p : PortId) (l : List Staged) : (s.setStaging p l).link = s.link := rfl
@[simp] theorem State.setStaging_trav (p : PortId) (l : List Staged) : (s.setStaging p l).trav = s.trav := rfl
@[simp] theorem State.setStaging_std (p : PortId) (l : List Staged) : (s.setStaging p l).std = s.std := rfl
@[simp] theorem State.setStaging_edge (p : PortId) (l : List Staged) : (s.setStaging p l).edge = s.edge := rfl
@[simp] theorem State.setStaging_ring (p : PortId) (l : List Staged) : (s.setStaging p l).ring = s.ring := rfl
@[simp] theorem State.setStaging_mon (p : PortId) (l : List Staged) : (s.setStaging p l).mon = s.mon := rfl
@[simp] theorem State.setStaging_alarms (p : PortId) (l : List Staged) : (s.setStaging p l).alarms = s.alarms := rfl
@[simp] theorem State.setStaging_setup (p : PortId) (l : List Staged) : (s.setStaging p l).setup = { s.setup with staging := s.setup.staging.set p l } := rfl
@[simp] theorem State.setStaging_ports (p : PortId) (l : List Staged) : (s.setStaging p l).ports = s.ports := rfl
@[simp] theorem State.setStaging_tallies (p : PortId) (l : List Staged) : (s.setStaging p l).tallies = s.tallies := rfl
@[simp] theorem State.setStaging_carriageTx (p : PortId) (l : List Staged) : (s.setStaging p l).carriageTx = s.carriageTx := rfl
@[simp] theorem State.setStaging_freeCount (p : PortId) (l : List Staged) : (s.setStaging p l).freeCount = s.freeCount := rfl
@[simp] theorem State.setStaging_pending (p : PortId) (l : List Staged) : (s.setStaging p l).pending = s.pending := rfl

@[simp] theorem State.onPort_link (p : PortId) (f : Port → Port) : (s.onPort p f).link = s.link := rfl
@[simp] theorem State.onPort_trav (p : PortId) (f : Port → Port) : (s.onPort p f).trav = s.trav := rfl
@[simp] theorem State.onPort_std (p : PortId) (f : Port → Port) : (s.onPort p f).std = s.std := rfl
@[simp] theorem State.onPort_edge (p : PortId) (f : Port → Port) : (s.onPort p f).edge = s.edge := rfl
@[simp] theorem State.onPort_ring (p : PortId) (f : Port → Port) : (s.onPort p f).ring = s.ring := rfl
@[simp] theorem State.onPort_mon (p : PortId) (f : Port → Port) : (s.onPort p f).mon = s.mon := rfl
@[simp] theorem State.onPort_alarms (p : PortId) (f : Port → Port) : (s.onPort p f).alarms = s.alarms := rfl
@[simp] theorem State.onPort_setup (p : PortId) (f : Port → Port) : (s.onPort p f).setup = s.setup := rfl
@[simp] theorem State.onPort_ports (p : PortId) (f : Port → Port) : (s.onPort p f).ports = s.ports.set p (f (s.ports.get p)) := rfl
@[simp] theorem State.onPort_tallies (p : PortId) (f : Port → Port) : (s.onPort p f).tallies = s.tallies := rfl
@[simp] theorem State.onPort_carriageTx (p : PortId) (f : Port → Port) : (s.onPort p f).carriageTx = s.carriageTx := rfl
@[simp] theorem State.onPort_freeCount (p : PortId) (f : Port → Port) : (s.onPort p f).freeCount = s.freeCount := rfl
@[simp] theorem State.onPort_pending (p : PortId) (f : Port → Port) : (s.onPort p f).pending = s.pending := rfl

@[simp] theorem State.onLink_link (f : CarriageLink → CarriageLink) : (s.onLink f).link = f s.link := rfl
@[simp] theorem State.onLink_trav (f : CarriageLink → CarriageLink) : (s.onLink f).trav = s.trav := rfl
@[simp] theorem State.onLink_std (f : CarriageLink → CarriageLink) : (s.onLink f).std = s.std := rfl
@[simp] theorem State.onLink_edge (f : CarriageLink → CarriageLink) : (s.onLink f).edge = s.edge := rfl
@[simp] theorem State.onLink_ring (f : CarriageLink → CarriageLink) : (s.onLink f).ring = s.ring := rfl
@[simp] theorem State.onLink_mon (f : CarriageLink → CarriageLink) : (s.onLink f).mon = s.mon := rfl
@[simp] theorem State.onLink_alarms (f : CarriageLink → CarriageLink) : (s.onLink f).alarms = s.alarms := rfl
@[simp] theorem State.onLink_setup (f : CarriageLink → CarriageLink) : (s.onLink f).setup = s.setup := rfl
@[simp] theorem State.onLink_ports (f : CarriageLink → CarriageLink) : (s.onLink f).ports = s.ports := rfl
@[simp] theorem State.onLink_tallies (f : CarriageLink → CarriageLink) : (s.onLink f).tallies = s.tallies := rfl
@[simp] theorem State.onLink_carriageTx (f : CarriageLink → CarriageLink) : (s.onLink f).carriageTx = s.carriageTx := rfl
@[simp] theorem State.onLink_freeCount (f : CarriageLink → CarriageLink) : (s.onLink f).freeCount = s.freeCount := rfl
@[simp] theorem State.onLink_pending (f : CarriageLink → CarriageLink) : (s.onLink f).pending = s.pending := rfl

@[simp] theorem State.setPos_link (p : Nat) : (s.setPos p).link = s.link := rfl
@[simp] theorem State.setPos_trav (p : Nat) : (s.setPos p).trav = { s.trav with pos := p } := rfl
@[simp] theorem State.setPos_std (p : Nat) : (s.setPos p).std = s.std := rfl
@[simp] theorem State.setPos_edge (p : Nat) : (s.setPos p).edge = s.edge := rfl
@[simp] theorem State.setPos_ring (p : Nat) : (s.setPos p).ring = s.ring := rfl
@[simp] theorem State.setPos_mon (p : Nat) : (s.setPos p).mon = s.mon := rfl
@[simp] theorem State.setPos_alarms (p : Nat) : (s.setPos p).alarms = s.alarms := rfl
@[simp] theorem State.setPos_setup (p : Nat) : (s.setPos p).setup = s.setup := rfl
@[simp] theorem State.setPos_ports (p : Nat) : (s.setPos p).ports = s.ports := rfl
@[simp] theorem State.setPos_tallies (p : Nat) : (s.setPos p).tallies = s.tallies := rfl
@[simp] theorem State.setPos_carriageTx (p : Nat) : (s.setPos p).carriageTx = s.carriageTx := rfl
@[simp] theorem State.setPos_freeCount (p : Nat) : (s.setPos p).freeCount = s.freeCount := rfl
@[simp] theorem State.setPos_pending (p : Nat) : (s.setPos p).pending = s.pending := rfl

@[simp] theorem State.setDwell_link (d : DwellAcc) : (s.setDwell d).link = s.link := rfl
@[simp] theorem State.setDwell_trav (d : DwellAcc) : (s.setDwell d).trav = { s.trav with dwell := d } := rfl
@[simp] theorem State.setDwell_std (d : DwellAcc) : (s.setDwell d).std = s.std := rfl
@[simp] theorem State.setDwell_edge (d : DwellAcc) : (s.setDwell d).edge = s.edge := rfl
@[simp] theorem State.setDwell_ring (d : DwellAcc) : (s.setDwell d).ring = s.ring := rfl
@[simp] theorem State.setDwell_mon (d : DwellAcc) : (s.setDwell d).mon = s.mon := rfl
@[simp] theorem State.setDwell_alarms (d : DwellAcc) : (s.setDwell d).alarms = s.alarms := rfl
@[simp] theorem State.setDwell_setup (d : DwellAcc) : (s.setDwell d).setup = s.setup := rfl
@[simp] theorem State.setDwell_ports (d : DwellAcc) : (s.setDwell d).ports = s.ports := rfl
@[simp] theorem State.setDwell_tallies (d : DwellAcc) : (s.setDwell d).tallies = s.tallies := rfl
@[simp] theorem State.setDwell_carriageTx (d : DwellAcc) : (s.setDwell d).carriageTx = s.carriageTx := rfl
@[simp] theorem State.setDwell_freeCount (d : DwellAcc) : (s.setDwell d).freeCount = s.freeCount := rfl
@[simp] theorem State.setDwell_pending (d : DwellAcc) : (s.setDwell d).pending = s.pending := rfl

@[simp] theorem State.setIntent_link (i : Intent) : (s.setIntent i).link = s.link := rfl
@[simp] theorem State.setIntent_trav (i : Intent) : (s.setIntent i).trav = { s.trav with intent := i } := rfl
@[simp] theorem State.setIntent_std (i : Intent) : (s.setIntent i).std = s.std := rfl
@[simp] theorem State.setIntent_edge (i : Intent) : (s.setIntent i).edge = s.edge := rfl
@[simp] theorem State.setIntent_ring (i : Intent) : (s.setIntent i).ring = s.ring := rfl
@[simp] theorem State.setIntent_mon (i : Intent) : (s.setIntent i).mon = s.mon := rfl
@[simp] theorem State.setIntent_alarms (i : Intent) : (s.setIntent i).alarms = s.alarms := rfl
@[simp] theorem State.setIntent_setup (i : Intent) : (s.setIntent i).setup = s.setup := rfl
@[simp] theorem State.setIntent_ports (i : Intent) : (s.setIntent i).ports = s.ports := rfl
@[simp] theorem State.setIntent_tallies (i : Intent) : (s.setIntent i).tallies = s.tallies := rfl
@[simp] theorem State.setIntent_carriageTx (i : Intent) : (s.setIntent i).carriageTx = s.carriageTx := rfl
@[simp] theorem State.setIntent_freeCount (i : Intent) : (s.setIntent i).freeCount = s.freeCount := rfl
@[simp] theorem State.setIntent_pending (i : Intent) : (s.setIntent i).pending = s.pending := rfl

/-! ### The ports, the kinds, the sets and the lines as families -/

@[simp] theorem PerPort.get_set_self {α : Type} (v : PerPort α) (p : PortId) (a : α) : (v.set p a).get p = a := by
  cases p <;> rfl

theorem PerPort.get_set_other {α : Type} (v : PerPort α) (p q : PortId) (a : α) (h : q ≠ p) :
    (v.set p a).get q = v.get q := by
  cases p <;> cases q <;> first | rfl | exact absurd rfl h

@[simp] theorem PerPort.set_get {α : Type} (v : PerPort α) (p : PortId) : v.set p (v.get p) = v := by
  cases p <;> rfl

@[simp] theorem PerPort.set_set {α : Type} (v : PerPort α) (p : PortId) (a b : α) :
    (v.set p a).set p b = v.set p b := by
  cases p <;> rfl

theorem PerPort.ext_get {α : Type} {v w : PerPort α} (h : ∀ p, v.get p = w.get p) : v = w := by
  cases v
  cases w
  have h0 := h .sp0
  have h1 := h .sp1
  have h2 := h .sp2
  simp only [PerPort.get] at h0 h1 h2
  subst h0 h1 h2
  rfl

@[simp] theorem EdgeUnit.get_set_self (e : EdgeUnit) (i : SetId) (a : AccSet) : (e.set i a).get i = a := by
  cases i <;> rfl

@[simp] theorem EdgeUnit.get_set_other (e : EdgeUnit) (i : SetId) (a : AccSet) :
    (e.set i a).get i.other = e.get i.other := by
  cases i <;> rfl

@[simp] theorem EdgeUnit.set_mapping (e : EdgeUnit) (i : SetId) (a : AccSet) :
    (e.set i a).mapping = e.mapping := by
  cases i <;> rfl

@[simp] theorem EdgeUnit.set_jumps (e : EdgeUnit) (i : SetId) (a : AccSet) : (e.set i a).jumps = e.jumps := by
  cases i <;> rfl

@[simp] theorem EdgeUnit.set_tracker (e : EdgeUnit) (i : SetId) (a : AccSet) : (e.set i a).tracker = e.tracker := by
  cases i <;> rfl

@[simp] theorem SetId.other_other (i : SetId) : i.other.other = i := by cases i <;> rfl

@[simp] theorem BreakMonitor.line_setLine_self (m : BreakMonitor) (l : Line) (v : LineState) :
    (m.setLine l v).line l = v := by
  cases l <;> rfl

@[simp] theorem BreakMonitor.setLine_state (m : BreakMonitor) (l : Line) (v : LineState) :
    (m.setLine l v).state = m.state := by
  cases l <;> rfl

@[simp] theorem BreakMonitor.setLine_output (m : BreakMonitor) (l : Line) (v : LineState) :
    (m.setLine l v).output = m.output := by
  cases l <;> rfl

/-! ### The tally bank -/

@[simp] theorem TallyBank.get_set_self (b : TallyBank) (id : TallyId) (t : Tally) : (b.set id t).get id = t := by
  cases id <;> rfl

theorem TallyBank.get_set_other (b : TallyBank) (id other : TallyId) (t : Tally) (h : other ≠ id) :
    (b.set id t).get other = b.get other := by
  cases id <;> cases other <;> first | rfl | exact absurd rfl h

theorem TallyBank.ext_get {b c : TallyBank} (h : ∀ id, b.get id = c.get id) : b = c := by
  cases b
  cases c
  have h1 := h .scansComplete
  have h2 := h .scansBroken
  have h3 := h .scansStopped
  have h4 := h .scansFaulted
  have h5 := h .breaks
  have h6 := h .holes
  have h7 := h .edgeJumps
  have h8 := h .positionSlips
  have h9 := h .stdFailures
  have h10 := h .samplesRejected
  have h11 := h .samplesMissing
  have h12 := h .binSaturations
  have h13 := h .noticesDropped
  have h14 := h .framesBad
  simp only [TallyBank.get] at h1 h2 h3 h4 h5 h6 h7 h8 h9 h10 h11 h12 h13 h14
  subst h1 h2 h3 h4 h5 h6 h7 h8 h9 h10 h11 h12 h13 h14
  rfl

end Sys2Proof.Machine
end

