-- ==== Sys2Proof/Laws/Ops.lean ====
section
/-! SUPPORT. What the shared operations can do: one lemma for each, which says everything it leaves as it was, and the
field lemmas that follow from it. -/

namespace Sys2Proof.Machine

/-! ### Ports that only queue, drop and send -/

theorem Port.Kept.refl (q : Port) : q.Kept q := ⟨rfl, rfl, rfl, rfl, rfl, rfl, rfl, rfl, rfl, rfl, rfl⟩

theorem Port.Kept.trans {q r t : Port} (h : q.Kept r) (k : r.Kept t) : q.Kept t :=
  ⟨k.1.trans h.1, k.2.trans h.2, k.3.trans h.3, k.4.trans h.4, k.5.trans h.5, k.6.trans h.6, k.7.trans h.7,
    k.8.trans h.8, k.9.trans h.9, k.10.trans h.10, k.11.trans h.11⟩

theorem Port.queue_kept (n : Notice) (q : Port) : q.Kept (q.queue n) := by
  unfold Port.queue
  split
  · exact ⟨rfl, rfl, rfl, rfl, rfl, rfl, rfl, rfl, rfl, rfl, rfl⟩
  · split <;> exact ⟨rfl, rfl, rfl, rfl, rfl, rfl, rfl, rfl, rfl, rfl, rfl⟩

theorem Port.startSend_kept (q : Port) : q.Kept q.startSend := by
  unfold Port.startSend
  split <;> exact ⟨rfl, rfl, rfl, rfl, rfl, rfl, rfl, rfl, rfl, rfl, rfl⟩

theorem PortsKept.refl (s : State) : PortsKept s s := ⟨.refl _, .refl _, .refl _⟩

theorem PortsKept.trans {s t u : State} (h : PortsKept s t) (k : PortsKept t u) : PortsKept s u :=
  ⟨h.1.trans k.1, h.2.1.trans k.2.1, h.2.2.trans k.2.2⟩

theorem PortsKept.get {s t : State} (h : PortsKept s t) (p : PortId) : (s.ports.get p).Kept (t.ports.get p) := by
  cases p
  · exact h.1
  · exact h.2.1
  · exact h.2.2

theorem portsKept_onPort (s : State) (p : PortId) (f : Port → Port) (h : (s.ports.get p).Kept (f (s.ports.get p))) :
    PortsKept s (s.onPort p f) := by
  cases p
  · exact ⟨h, .refl _, .refl _⟩
  · exact ⟨.refl _, h, .refl _⟩
  · exact ⟨.refl _, .refl _, h⟩

/-! ### Operations that queue notices and count tallies, and do nothing else -/

theorem OnlyNotices.refl (ids : List TallyId) (s : State) : OnlyNotices ids s s :=
  ⟨rfl, rfl, rfl, rfl, rfl, rfl, rfl, rfl, rfl, rfl, rfl, .refl s, fun _ _ _ => rfl⟩

theorem OnlyNotices.trans {ids : List TallyId} {s t u : State} (h : OnlyNotices ids s t) (k : OnlyNotices ids t u) :
    OnlyNotices ids s u :=
  ⟨k.link.trans h.link, k.trav.trans h.trav, k.std.trans h.std, k.edge.trans h.edge, k.ring.trans h.ring,
    k.mon.trans h.mon, k.alarms.trans h.alarms, k.setup.trans h.setup, k.carriageTx.trans h.carriageTx,
    k.freeCount.trans h.freeCount, k.pending.trans h.pending, h.ports.trans k.ports,
    fun id a b => (k.tallies id a b).trans (h.tallies id a b)⟩

theorem OnlyNotices.mono {ids more : List TallyId} {s t : State} (h : OnlyNotices ids s t) (sub : ids ⊆ more) :
    OnlyNotices more s t :=
  { h with tallies := fun id a b => h.tallies id (fun c => a (sub c)) b }

theorem onlyNotices_bump (id : TallyId) (n : Nat) (s : State) : OnlyNotices [id] s (bump id n s) :=
  ⟨rfl, rfl, rfl, rfl, rfl, rfl, rfl, rfl, rfl, rfl, rfl, .refl s,
    fun other a _ => TallyBank.get_set_other _ _ _ _ (by simpa using a)⟩

theorem onlyNotices_bumpDropped (ids : List TallyId) (n : Nat) (s : State) :
    OnlyNotices ids s (bump .noticesDropped n s) :=
  { onlyNotices_bump .noticesDropped n s with tallies := fun _ _ b => TallyBank.get_set_other _ _ _ _ b }

theorem onlyNotices_onPort (ids : List TallyId) (s : State) (p : PortId) (n : Notice) :
    OnlyNotices ids s (s.onPort p (fun q => q.queue n)) :=
  ⟨rfl, rfl, rfl, rfl, rfl, rfl, rfl, rfl, rfl, rfl, rfl, portsKept_onPort s p _ (Port.queue_kept n _),
    fun _ _ _ => rfl⟩

theorem onlyNotices_queueLast (ids : List TallyId) (n : Notice) (p : PortId) (s : State) :
    OnlyNotices ids s (queueLast n p s) := by
  unfold queueLast
  split
  · exact (onlyNotices_onPort ids s p n).trans (onlyNotices_bumpDropped ids 1 _)
  · exact onlyNotices_onPort ids s p n

theorem onlyNotices_atSubscribers (ids : List TallyId) (code : Nat) (act : PortId → State → State)
    (h : ∀ p s, OnlyNotices ids s (act p s)) (s : State) : OnlyNotices ids s (atSubscribers code act s) := by
  have one (p : PortId) (s : State) :
      OnlyNotices ids s (if (s.ports.get p).subscribed code then act p s else s) := by
    split
    · exact h p s
    · exact .refl ids s
  exact ((one .sp0 s).trans (one .sp1 _)).trans (one .sp2 _)

theorem onlyNotices_countDrop (ids : List TallyId) (s : State) : OnlyNotices ids s (countDrop s) := by
  unfold countDrop
  split
  · exact (onlyNotices_bumpDropped ids 1 s).trans
      (onlyNotices_atSubscribers ids 8 _ (fun p s => onlyNotices_queueLast ids _ p s) _)
  · exact onlyNotices_bumpDropped ids 1 s

/-- Everything a queueing at one port does (R168 to R171). -/
theorem onlyNotices_queueAt (ids : List TallyId) (n : Notice) (p : PortId) (s : State) :
    OnlyNotices ids s (queueAt n p s) := by
  unfold queueAt
  split
  · exact (onlyNotices_onPort ids s p n).trans (onlyNotices_countDrop ids _)
  · exact onlyNotices_onPort ids s p n

/-- Everything a notice does (R168): no tally but NOTICES_DROPPED changes. -/
theorem onlyNotices_notify (ids : List TallyId) (n : Notice) (s : State) : OnlyNotices ids s (notify n s) :=
  onlyNotices_atSubscribers ids n.code _ (fun p s => onlyNotices_queueAt ids n p s) s

/-- Everything a count does (R180, R181) but for the counted tally's own value. -/
theorem onlyNotices_count (id : TallyId) (n : Nat) (s : State) : OnlyNotices [id] s (count id n s) := by
  unfold count
  split
  · exact (onlyNotices_bump id n s).trans (onlyNotices_notify _ _ _)
  · exact onlyNotices_bump id n s

theorem onlyNotices_countTimes (id : TallyId) (n : Nat) (s : State) : OnlyNotices [id] s (countTimes id n s) := by
  induction n generalizing s with
  | zero => exact .refl _ s
  | succ n ih => exact (onlyNotices_count id 1 s).trans (ih _)

/-- Everything the end of an event does (R167): senders begin frames. -/
theorem onlyNotices_settle (ids : List TallyId) (s : State) : OnlyNotices ids s (settle s) :=
  ⟨rfl, rfl, rfl, rfl, rfl, rfl, rfl, rfl, rfl, rfl, rfl,
    ⟨Port.startSend_kept _, Port.startSend_kept _, Port.startSend_kept _⟩, fun _ _ _ => rfl⟩

/-- R180, R181: the counted tally after a count. -/
theorem count_get (id : TallyId) (n : Nat) (s : State) (h : id ≠ .noticesDropped) :
    (count id n s).tallies.get id =
      ⟨countedValue s.setup.active.tallyMode (s.tallies.get id).value n,
        (s.tallies.get id).half || crossesHalf s.setup.active.tallyMode (s.tallies.get id).value n⟩ := by
  unfold count
  split
  · rw [(onlyNotices_notify [] _ _).tallies id (by simp) h]
    simp [bump]
  · simp [bump]

@[simp] theorem notify_link (n : Notice) (s : State) : (notify n s).link = s.link :=
  (onlyNotices_notify [] n s).link
@[simp] theorem notify_trav (n : Notice) (s : State) : (notify n s).trav = s.trav :=
  (onlyNotices_notify [] n s).trav
@[simp] theorem notify_std (n : Notice) (s : State) : (notify n s).std = s.std :=
  (onlyNotices_notify [] n s).std
@[simp] theorem notify_edge (n : Notice) (s : State) : (notify n s).edge = s.edge :=
  (onlyNotices_notify [] n s).edge
@[simp] theorem notify_ring (n : Notice) (s : State) : (notify n s).ring = s.ring :=
  (onlyNotices_notify [] n s).ring
@[simp] theorem notify_mon (n : Notice) (s : State) : (notify n s).mon = s.mon :=
  (onlyNotices_notify [] n s).mon
@[simp] theorem notify_alarms (n : Notice) (s : State) : (notify n s).alarms = s.alarms :=
  (onlyNotices_notify [] n s).alarms
@[simp] theorem notify_setup (n : Notice) (s : State) : (notify n s).setup = s.setup :=
  (onlyNotices_notify [] n s).setup
@[simp] theorem notify_carriageTx (n : Notice) (s : State) : (notify n s).carriageTx = s.carriageTx :=
  (onlyNotices_notify [] n s).carriageTx
@[simp] theorem notify_freeCount (n : Notice) (s : State) : (notify n s).freeCount = s.freeCount :=
  (onlyNotices_notify [] n s).freeCount
@[simp] theorem notify_pending (n : Notice) (s : State) : (notify n s).pending = s.pending :=
  (onlyNotices_notify [] n s).pending
@[simp] theorem queueAt_link (n : Notice) (p : PortId) (s : State) : (queueAt n p s).link = s.link :=
  (onlyNotices_queueAt [] n p s).link
@[simp] theorem queueAt_trav (n : Notice) (p : PortId) (s : State) : (queueAt n p s).trav = s.trav :=
  (onlyNotices_queueAt [] n p s).trav
@[simp] theorem queueAt_std (n : Notice) (p : PortId) (s : State) : (queueAt n p s).std = s.std :=
  (onlyNotices_queueAt [] n p s).std
@[simp] theorem queueAt_edge (n : Notice) (p : PortId) (s : State) : (queueAt n p s).edge = s.edge :=
  (onlyNotices_queueAt [] n p s).edge
@[simp] theorem queueAt_ring (n : Notice) (p : PortId) (s : State) : (queueAt n p s).ring = s.ring :=
  (onlyNotices_queueAt [] n p s).ring
@[simp] theorem queueAt_mon (n : Notice) (p : PortId) (s : State) : (queueAt n p s).mon = s.mon :=
  (onlyNotices_queueAt [] n p s).mon
@[simp] theorem queueAt_alarms (n : Notice) (p : PortId) (s : State) : (queueAt n p s).alarms = s.alarms :=
  (onlyNotices_queueAt [] n p s).alarms
@[simp] theorem queueAt_setup (n : Notice) (p : PortId) (s : State) : (queueAt n p s).setup = s.setup :=
  (onlyNotices_queueAt [] n p s).setup
@[simp] theorem queueAt_carriageTx (n : Notice) (p : PortId) (s : State) : (queueAt n p s).carriageTx = s.carriageTx :=
  (onlyNotices_queueAt [] n p s).carriageTx
@[simp] theorem queueAt_freeCount (n : Notice) (p : PortId) (s : State) : (queueAt n p s).freeCount = s.freeCount :=
  (onlyNotices_queueAt [] n p s).freeCount
@[simp] theorem queueAt_pending (n : Notice) (p : PortId) (s : State) : (queueAt n p s).pending = s.pending :=
  (onlyNotices_queueAt [] n p s).pending
@[simp] theorem count_link (id : TallyId) (n : Nat) (s : State) : (count id n s).link = s.link :=
  (onlyNotices_count id n s).link
@[simp] theorem count_trav (id : TallyId) (n : Nat) (s : State) : (count id n s).trav = s.trav :=
  (onlyNotices_count id n s).trav
@[simp] theorem count_std (id : TallyId) (n : Nat) (s : State) : (count id n s).std = s.std :=
  (onlyNotices_count id n s).std
@[simp] theorem count_edge (id : TallyId) (n : Nat) (s : State) : (count id n s).edge = s.edge :=
  (onlyNotices_count id n s).edge
@[simp] theorem count_ring (id : TallyId) (n : Nat) (s : State) : (count id n s).ring = s.ring :=
  (onlyNotices_count id n s).ring
@[simp] theorem count_mon (id : TallyId) (n : Nat) (s : State) : (count id n s).mon = s.mon :=
  (onlyNotices_count id n s).mon
@[simp] theorem count_alarms (id : TallyId) (n : Nat) (s : State) : (count id n s).alarms = s.alarms :=
  (onlyNotices_count id n s).alarms
@[simp] theorem count_setup (id : TallyId) (n : Nat) (s : State) : (count id n s).setup = s.setup :=
  (onlyNotices_count id n s).setup
@[simp] theorem count_carriageTx (id : TallyId) (n : Nat) (s : State) : (count id n s).carriageTx = s.carriageTx :=
  (onlyNotices_count id n s).carriageTx
@[simp] theorem count_freeCount (id : TallyId) (n : Nat) (s : State) : (count id n s).freeCount = s.freeCount :=
  (onlyNotices_count id n s).freeCount
@[simp] theorem count_pending (id : TallyId) (n : Nat) (s : State) : (count id n s).pending = s.pending :=
  (onlyNotices_count id n s).pending
@[simp] theorem countTimes_link (id : TallyId) (n : Nat) (s : State) : (countTimes id n s).link = s.link :=
  (onlyNotices_countTimes id n s).link
@[simp] theorem countTimes_trav (id : TallyId) (n : Nat) (s : State) : (countTimes id n s).trav = s.trav :=
  (onlyNotices_countTimes id n s).trav
@[simp] theorem countTimes_std (id : TallyId) (n : Nat) (s : State) : (countTimes id n s).std = s.std :=
  (onlyNotices_countTimes id n s).std
@[simp] theorem countTimes_edge (id : TallyId) (n : Nat) (s : State) : (countTimes id n s).edge = s.edge :=
  (onlyNotices_countTimes id n s).edge
@[simp] theorem countTimes_ring (id : TallyId) (n : Nat) (s : State) : (countTimes id n s).ring = s.ring :=
  (onlyNotices_countTimes id n s).ring
@[simp] theorem countTimes_mon (id : TallyId) (n : Nat) (s : State) : (countTimes id n s).mon = s.mon :=
  (onlyNotices_countTimes id n s).mon
@[simp] theorem countTimes_alarms (id : TallyId) (n : Nat) (s : State) : (countTimes id n s).alarms = s.alarms :=
  (onlyNotices_countTimes id n s).alarms
@[simp] theorem countTimes_setup (id : TallyId) (n : Nat) (s : State) : (countTimes id n s).setup = s.setup :=
  (onlyNotices_countTimes id n s).setup
@[simp] theorem countTimes_carriageTx (id : TallyId) (n : Nat) (s : State) : (countTimes id n s).carriageTx = s.carriageTx :=
  (onlyNotices_countTimes id n s).carriageTx
@[simp] theorem countTimes_freeCount (id : TallyId) (n : Nat) (s : State) : (countTimes id n s).freeCount = s.freeCount :=
  (onlyNotices_countTimes id n s).freeCount
@[simp] theorem countTimes_pending (id : TallyId) (n : Nat) (s : State) : (countTimes id n s).pending = s.pending :=
  (onlyNotices_countTimes id n s).pending
@[simp] theorem settle_link (s : State) : (settle s).link = s.link := rfl
@[simp] theorem settle_trav (s : State) : (settle s).trav = s.trav := rfl
@[simp] theorem settle_std (s : State) : (settle s).std = s.std := rfl
@[simp] theorem settle_edge (s : State) : (settle s).edge = s.edge := rfl
@[simp] theorem settle_ring (s : State) : (settle s).ring = s.ring := rfl
@[simp] theorem settle_mon (s : State) : (settle s).mon = s.mon := rfl
@[simp] theorem settle_alarms (s : State) : (settle s).alarms = s.alarms := rfl
@[simp] theorem settle_setup (s : State) : (settle s).setup = s.setup := rfl
@[simp] theorem settle_carriageTx (s : State) : (settle s).carriageTx = s.carriageTx := rfl
@[simp] theorem settle_freeCount (s : State) : (settle s).freeCount = s.freeCount := rfl
@[simp] theorem settle_pending (s : State) : (settle s).pending = s.pending := rfl
@[simp] theorem settle_tallies (s : State) : (settle s).tallies = s.tallies := rfl

/-! ### Head commands and the traverse state -/

/-- Everything a head command does (R1, R10). -/
theorem issue_eq (c : HeadCmd) (s : State) :
    issue c s =
      { s with
        link := { s.link with cmdNo := s.link.cmdNo + 1,
                              lastMotion := if c.isMotion then some (s.link.cmdNo + 1) else s.link.lastMotion }
        trav := { s.trav with moveTimer := if c.isMotion then some s.setup.active.moveTimeout else none,
                              atPark := s.trav.atPark && !c.isMove }
        carriageTx := if s.link.up then s.carriageTx ++ [⟨s.link.cmdNo + 1, c⟩] else s.carriageTx } :=
  rfl

@[simp] theorem issue_std (c : HeadCmd) (s : State) : (issue c s).std = s.std := rfl
@[simp] theorem issue_edge (c : HeadCmd) (s : State) : (issue c s).edge = s.edge := rfl
@[simp] theorem issue_ring (c : HeadCmd) (s : State) : (issue c s).ring = s.ring := rfl
@[simp] theorem issue_mon (c : HeadCmd) (s : State) : (issue c s).mon = s.mon := rfl
@[simp] theorem issue_alarms (c : HeadCmd) (s : State) : (issue c s).alarms = s.alarms := rfl
@[simp] theorem issue_setup (c : HeadCmd) (s : State) : (issue c s).setup = s.setup := rfl
@[simp] theorem issue_ports (c : HeadCmd) (s : State) : (issue c s).ports = s.ports := rfl
@[simp] theorem issue_tallies (c : HeadCmd) (s : State) : (issue c s).tallies = s.tallies := rfl
@[simp] theorem issue_freeCount (c : HeadCmd) (s : State) : (issue c s).freeCount = s.freeCount := rfl
@[simp] theorem issue_pending (c : HeadCmd) (s : State) : (issue c s).pending = s.pending := rfl

/-- R7, R10: the traverse controller after a change of state. -/
@[simp] theorem changeState_trav (st : TravState) (s : State) :
    (changeState st s).trav =
      { s.trav with state := st,
                    moveTimer := if st = .fault ∧ s.trav.state ≠ .fault then none else s.trav.moveTimer } := by
  unfold changeState
  split
  · rename_i h
    subst h
    simp
  · rename_i h
    simp only [notify_trav, State.onTrav_trav]
    congr 1
    split
    · rename_i e
      subst e
      simp [h]
    · rename_i e
      simp [e]

/-- A change of state but for the traverse controller itself: a TRAVERSE_STATE notice at most. -/
theorem onlyNotices_changeState (ids : List TallyId) (st : TravState) (s : State) :
    OnlyNotices ids { s with trav := (changeState st s).trav } (changeState st s) := by
  unfold changeState
  split
  · exact .refl ids s
  · have h := onlyNotices_notify ids
      (traverseNotice (s.onTrav (fun t => { t with state := st, moveTimer := if st = .fault then none else t.moveTimer })))
      (s.onTrav (fun t => { t with state := st, moveTimer := if st = .fault then none else t.moveTimer }))
    exact { h with trav := by simp, ports := h.ports }

@[simp] theorem changeState_link (st : TravState) (s : State) : (changeState st s).link = s.link :=
  (onlyNotices_changeState [] st s).link
@[simp] theorem changeState_std (st : TravState) (s : State) : (changeState st s).std = s.std :=
  (onlyNotices_changeState [] st s).std
@[simp] theorem changeState_edge (st : TravState) (s : State) : (changeState st s).edge = s.edge :=
  (onlyNotices_changeState [] st s).edge
@[simp] theorem changeState_ring (st : TravState) (s : State) : (changeState st s).ring = s.ring :=
  (onlyNotices_changeState [] st s).ring
@[simp] theorem changeState_mon (st : TravState) (s : State) : (changeState st s).mon = s.mon :=
  (onlyNotices_changeState [] st s).mon
@[simp] theorem changeState_alarms (st : TravState) (s : State) : (changeState st s).alarms = s.alarms :=
  (onlyNotices_changeState [] st s).alarms
@[simp] theorem changeState_setup (st : TravState) (s : State) : (changeState st s).setup = s.setup :=
  (onlyNotices_changeState [] st s).setup
@[simp] theorem changeState_carriageTx (st : TravState) (s : State) : (changeState st s).carriageTx = s.carriageTx :=
  (onlyNotices_changeState [] st s).carriageTx
@[simp] theorem changeState_freeCount (st : TravState) (s : State) : (changeState st s).freeCount = s.freeCount :=
  (onlyNotices_changeState [] st s).freeCount
@[simp] theorem changeState_pending (st : TravState) (s : State) : (changeState st s).pending = s.pending :=
  (onlyNotices_changeState [] st s).pending

/-! ### The alarm list -/

/-- Everything a raise does outside the alarm list (R128): its ALARM notice. -/
theorem onlyNotices_raiseAlarm (ids : List TallyId) (kind : AlarmKind) (cause : Option Cause) (scan : Nat)
    (pos : Option Nat) (s : State) :
    OnlyNotices ids { s with alarms := (raiseAlarm kind cause scan pos s).alarms }
      (raiseAlarm kind cause scan pos s) := by
  have h := onlyNotices_notify ids (.alarm .raised (newAlarm kind cause scan pos s))
    { s with alarms := { records := alarmRoom s.alarms.records ++ [newAlarm kind cause scan pos s],
                         nextId := nextAlarmId (newAlarm kind cause scan pos s).id } }
  exact ⟨h.link, h.trav, h.std, h.edge, h.ring, h.mon, rfl, h.setup, h.carriageTx, h.freeCount, h.pending, h.ports,
    h.tallies⟩

/-- R128, R132: the alarm list after a raise. -/
theorem raiseAlarm_alarms (kind : AlarmKind) (cause : Option Cause) (scan : Nat) (pos : Option Nat) (s : State) :
    (raiseAlarm kind cause scan pos s).alarms =
      { records := removeCovered s.alarms.nextId
          (alarmRoom s.alarms.records ++ [newAlarm kind cause scan pos s]),
        nextId := nextAlarmId s.alarms.nextId } := by
  simp [raiseAlarm, newAlarm]

@[simp] theorem raiseAlarm_link (kind : AlarmKind) (cause : Option Cause) (scan : Nat) (pos : Option Nat)
    (s : State) : (raiseAlarm kind cause scan pos s).link = s.link :=
  (onlyNotices_raiseAlarm [] kind cause scan pos s).link
@[simp] theorem raiseAlarm_trav (kind : AlarmKind) (cause : Option Cause) (scan : Nat) (pos : Option Nat)
    (s : State) : (raiseAlarm kind cause scan pos s).trav = s.trav :=
  (onlyNotices_raiseAlarm [] kind cause scan pos s).trav
@[simp] theorem raiseAlarm_std (kind : AlarmKind) (cause : Option Cause) (scan : Nat) (pos : Option Nat)
    (s : State) : (raiseAlarm kind cause scan pos s).std = s.std :=
  (onlyNotices_raiseAlarm [] kind cause scan pos s).std
@[simp] theorem raiseAlarm_edge (kind : AlarmKind) (cause : Option Cause) (scan : Nat) (pos : Option Nat)
    (s : State) : (raiseAlarm kind cause scan pos s).edge = s.edge :=
  (onlyNotices_raiseAlarm [] kind cause scan pos s).edge
@[simp] theorem raiseAlarm_ring (kind : AlarmKind) (cause : Option Cause) (scan : Nat) (pos : Option Nat)
    (s : State) : (raiseAlarm kind cause scan pos s).ring = s.ring :=
  (onlyNotices_raiseAlarm [] kind cause scan pos s).ring
@[simp] theorem raiseAlarm_mon (kind : AlarmKind) (cause : Option Cause) (scan : Nat) (pos : Option Nat)
    (s : State) : (raiseAlarm kind cause scan pos s).mon = s.mon :=
  (onlyNotices_raiseAlarm [] kind cause scan pos s).mon
@[simp] theorem raiseAlarm_setup (kind : AlarmKind) (cause : Option Cause) (scan : Nat) (pos : Option Nat)
    (s : State) : (raiseAlarm kind cause scan pos s).setup = s.setup :=
  (onlyNotices_raiseAlarm [] kind cause scan pos s).setup
@[simp] theorem raiseAlarm_carriageTx (kind : AlarmKind) (cause : Option Cause) (scan : Nat) (pos : Option Nat)
    (s : State) : (raiseAlarm kind cause scan pos s).carriageTx = s.carriageTx :=
  (onlyNotices_raiseAlarm [] kind cause scan pos s).carriageTx
@[simp] theorem raiseAlarm_freeCount (kind : AlarmKind) (cause : Option Cause) (scan : Nat) (pos : Option Nat)
    (s : State) : (raiseAlarm kind cause scan pos s).freeCount = s.freeCount :=
  (onlyNotices_raiseAlarm [] kind cause scan pos s).freeCount
@[simp] theorem raiseAlarm_pending (kind : AlarmKind) (cause : Option Cause) (scan : Nat) (pos : Option Nat)
    (s : State) : (raiseAlarm kind cause scan pos s).pending = s.pending :=
  (onlyNotices_raiseAlarm [] kind cause scan pos s).pending

/-! ### Apply events -/

@[simp] theorem SetupStore.appliedBy_staging (u : SetupStore) (picks : Armed → Bool) :
    (u.appliedBy picks).staging = u.staging := rfl
@[simp] theorem SetupStore.appliedBy_groupMark (u : SetupStore) (picks : Armed → Bool) :
    (u.appliedBy picks).groupMark = u.groupMark := rfl
@[simp] theorem SetupStore.appliedBy_armed (u : SetupStore) (picks : Armed → Bool) :
    (u.appliedBy picks).armed = u.armed.filter (fun e => !picks e) := rfl

/-- R155: an apply event that picks no armed entry leaves the store as it is. -/
theorem SetupStore.appliedBy_of_none (u : SetupStore) (picks : Armed → Bool) (h : u.armed.filter picks = []) :
    u.appliedBy picks = u := by
  have k : u.armed.filter (fun e => !picks e) = u.armed :=
    List.filter_eq_self.2 fun e he => by simpa using List.filter_eq_nil_iff.1 h e he
  simp [SetupStore.appliedBy, h, k]

/-- R155: all that applying armed entries does. -/
theorem applyArmed_eq (sel : Armed → Bool) (point : ApplyPoint) (s : State) :
    applyArmed sel point s = appliedAt point sel s := by
  by_cases h : s.setup.armed.filter sel = []
  · have k : s.setup.armed.filter (fun e => !sel e) = s.setup.armed :=
      List.filter_eq_self.2 fun e he => by simpa using List.filter_eq_nil_iff.1 h e he
    simp [applyArmed, applyValues, appliedAt, State.onSetup, h, k]
  · have k : ((s.setup.armed.filter sel).map Armed.pair).isEmpty = false := by simpa using h
    unfold applyArmed applyValues appliedAt
    rw [k, if_neg h, if_neg Bool.false_ne_true, List.any_map, List.length_map]
    simp only [State.onSetup, Setup.overlay, List.foldl_map]
    rfl

/-- R151: step 1 of a scan start. -/
theorem applyAtScanStart_eq (s : State) : applyAtScanStart s = appliedAt .scanStart (scanStartPicks s) s := by
  rw [applyAtScanStart, applyArmed_eq]
  congr 1
  funext e
  unfold scanStartPicks State.reached State.scanEnded
  cases e.target <;> cases s.trav.cur <;> simp

/-- R152: what the end of a scan applies once the scan is no longer in progress. -/
theorem scanEndSelects_eq (s : State) (h : s.trav.cur = none) :
    scanEndSelects s = scanEndPicks s.trav.scanNumber := by
  funext e
  unfold scanEndSelects scanEndPicks State.reached State.scanEnded
  cases e.target <;> simp [h, Nat.le_iff_lt_or_eq]

/-! ### A sample on its way (R3 to R5) -/

/-- R4: a sample after the last one leaves as many missing as the sequence numbers skip. -/
theorem missing_eq (last seq : BitVec 16) : missing last seq = (seq.toNat + 65535 - last.toNat) % 65536 := by
  have h := seq.isLt
  have k := last.isLt
  simp only [missing, BitVec.toNat_sub]
  simp
  omega

/-- R3, R4: all that the gap check of a sample that is no repeat does. -/
theorem takeSeq_eq (f : SampleFrame) (s : State) : takeSeq f (frameSeen s) = gapChecked f s := by
  unfold takeSeq frameSeen gapChecked State.onLink
  simp only [missing_eq]

/-- Everything the gap check leaves as it was. -/
theorem onlyNotices_gapChecked (f : SampleFrame) (s : State) :
    OnlyNotices [.samplesMissing]
      { s with link := { s.link with up := true, silence := some s.setup.active.headTimeout, lastSeq := some f.seq } }
      (gapChecked f s) := by
  unfold gapChecked
  dsimp only
  split
  · exact .refl _ _
  · exact onlyNotices_count _ _ _

/-- R5: a sample without an index flag is placed, and nothing more. -/
theorem reckon_eq (f : SampleFrame) (s : State) (hF : indexFFlag f = false) (hD : indexDFlag f = false) :
    reckon f (takeSeq f (frameSeen s)) = placed f s := by
  have h := onlyNotices_gapChecked f s
  have hm (p : Nat) : markOf f s.setup.active p = none := by simp [markOf, hF, hD]
  have hl : reckonedStep f.pos =
      if f.pos.toNat % 128 < 64 then ((f.pos.toNat % 128 : Nat) : Int) else ((f.pos.toNat % 128 : Nat) : Int) - 128 := by
    simp only [reckonedStep, BitVec.toInt_eq_toNat_cond, BitVec.extractLsb'_toNat]
    simp
    omega
  rw [takeSeq_eq]
  simp only [reckon, reckoned, h.setup, h.trav, hm, placed, State.setPos, State.onTrav]
  cases s.setup.active.positionMode <;> simp [encoderPos, maxPos, stepPos, hl]
  omega

end Sys2Proof.Machine
end

