-- ==== Sys2Proof/Laws/PerInstr.lean ====
section
/-! SUPPORT. Statements made for each command: the fields of a frame that the head sends are read back as they were
written (R188, 11.5). -/

namespace Sys2Proof.Laws.HeadFrames

/-- R188: where the command stands for a frame the head sends, reading the fields of that frame gives the command. -/
def Statement (i : Instr) : Prop := ∀ fields, encodeHead i = some fields → readCarriageFields fields = i

theorem deviceReset : Statement .deviceReset := by
  simp [Statement, encodeHead]

theorem sample (f : SampleFrame) : Statement (.sample f) := by
  intro fields h
  simp only [encodeHead, Option.some.injEq] at h
  subst h
  simp [bytes16, bytes24, readCarriageFields, le16_bytes16, le24_bytes24]

theorem arrived (number : BitVec 8) (pos : BitVec 16) : Statement (.arrived number pos) := by
  intro fields h
  simp only [encodeHead, Option.some.injEq] at h
  subst h
  simp [bytes16, readCarriageFields, le16_bytes16]

theorem headStatus (flags : BitVec 8) : Statement (.headStatus flags) := by
  intro fields h
  simp only [encodeHead, Option.some.injEq] at h
  subst h
  rfl

theorem carriageFrameDiscarded : Statement .carriageFrameDiscarded := by
  simp [Statement, encodeHead]

theorem carriageFrameUnknownType : Statement .carriageFrameUnknownType := by
  simp [Statement, encodeHead]

theorem silenceTimerExpiry : Statement .silenceTimerExpiry := by
  simp [Statement, encodeHead]

theorem moveTimerExpiry : Statement .moveTimerExpiry := by
  simp [Statement, encodeHead]

theorem lineLevelChange (line : Line) (level : Bool) : Statement (.lineLevelChange line level) := by
  simp [Statement, encodeHead]

theorem lineDebounceExpiry (line : Line) : Statement (.lineDebounceExpiry line) := by
  simp [Statement, encodeHead]

theorem finalized : Statement .finalized := by
  simp [Statement, encodeHead]

theorem requestArrival (port : PortId) (tag : BitVec 8) (payload : List Byte) :
    Statement (.requestArrival port tag payload) := by
  simp [Statement, encodeHead]

theorem requestMalformed (port : PortId) (tag : BitVec 8) (payload : List Byte) :
    Statement (.requestMalformed port tag payload) := by
  simp [Statement, encodeHead]

theorem scanStartRequest (port : PortId) (tag : BitVec 8) : Statement (.scanStartRequest port tag) := by
  simp [Statement, encodeHead]

theorem scanStop (port : PortId) (tag : BitVec 8) : Statement (.scanStop port tag) := by
  simp [Statement, encodeHead]

theorem dwellAt (port : PortId) (tag : BitVec 8) (p : BitVec 16) : Statement (.dwellAt port tag p) := by
  simp [Statement, encodeHead]

theorem standardizeNow (port : PortId) (tag : BitVec 8) : Statement (.standardizeNow port tag) := by
  simp [Statement, encodeHead]

theorem clearFault (port : PortId) (tag : BitVec 8) : Statement (.clearFault port tag) := by
  simp [Statement, encodeHead]

theorem readStatus (port : PortId) (tag : BitVec 8) : Statement (.readStatus port tag) := by
  simp [Statement, encodeHead]

theorem readStandardization (port : PortId) (tag : BitVec 8) : Statement (.readStandardization port tag) := by
  simp [Statement, encodeHead]

theorem readProfile (port : PortId) (tag : BitVec 8) (sel : ScanSelector) (kinds : BitVec 8) (forms : BitVec 8) (first : BitVec 16) (last : BitVec 16) :
    Statement (.readProfile port tag sel kinds forms first last) := by
  simp [Statement, encodeHead]

theorem flushProfiles (port : PortId) (tag : BitVec 8) : Statement (.flushProfiles port tag) := by
  simp [Statement, encodeHead]

theorem resumeSheet (port : PortId) (tag : BitVec 8) : Statement (.resumeSheet port tag) := by
  simp [Statement, encodeHead]

theorem readAlarms (port : PortId) (tag : BitVec 8) : Statement (.readAlarms port tag) := by
  simp [Statement, encodeHead]

theorem acknowledgeAlarm (port : PortId) (tag : BitVec 8) (id : BitVec 16) :
    Statement (.acknowledgeAlarm port tag id) := by
  simp [Statement, encodeHead]

theorem writeSetup (port : PortId) (tag : BitVec 8) (item : BitVec 8) (value : Offered) :
    Statement (.writeSetup port tag item value) := by
  simp [Statement, encodeHead]

theorem readSetup (port : PortId) (tag : BitVec 8) (item : BitVec 8) (copy : BitVec 8) :
    Statement (.readSetup port tag item copy) := by
  simp [Statement, encodeHead]

theorem discardStaging (port : PortId) (tag : BitVec 8) : Statement (.discardStaging port tag) := by
  simp [Statement, encodeHead]

theorem commitSetup (port : PortId) (tag : BitVec 8) (target : Target) :
    Statement (.commitSetup port tag target) := by
  simp [Statement, encodeHead]

theorem subscribe (port : PortId) (tag : BitVec 8) (mask : BitVec 16) : Statement (.subscribe port tag mask) := by
  simp [Statement, encodeHead]

theorem readTallies (port : PortId) (tag : BitVec 8) (mask : BitVec 16) (clear : Bool) :
    Statement (.readTallies port tag mask clear) := by
  simp [Statement, encodeHead]

theorem clearTallies (port : PortId) (tag : BitVec 8) : Statement (.clearTallies port tag) := by
  simp [Statement, encodeHead]

theorem hold (port : PortId) (time : BitVec 16) : Statement (.hold port time) := by
  simp [Statement, encodeHead]

theorem masterHoldExpiry (port : PortId) : Statement (.masterHoldExpiry port) := by
  simp [Statement, encodeHead]

theorem partHoldExpiry (port : PortId) : Statement (.partHoldExpiry port) := by
  simp [Statement, encodeHead]

theorem portReset (port : PortId) (tag : BitVec 8) : Statement (.portReset port tag) := by
  simp [Statement, encodeHead]

theorem serviceFrameDiscarded (port : PortId) : Statement (.serviceFrameDiscarded port) := by
  simp [Statement, encodeHead]

theorem linkLineFall (port : PortId) : Statement (.linkLineFall port) := by
  simp [Statement, encodeHead]

theorem linkLineRise (port : PortId) : Statement (.linkLineRise port) := by
  simp [Statement, encodeHead]

theorem frameSent (port : PortId) : Statement (.frameSent port) := by
  simp [Statement, encodeHead]

end Sys2Proof.Laws.HeadFrames
end

