-- ==== Sys2Proof/Laws/Requests.lean ====
section
/-! SUPPORT. How a request that is taken at once comes to its answer: the arrival is the taking, and a request that gives
no transfer leaves one response in the engine. -/

namespace Sys2Proof.Machine

/-- R163: at an UP port with an idle engine and an empty queue, the arrival of a request is its taking. -/
theorem requestArrives_taken (p : PortId) (r : Queued) (s : State) (h : TakesAtOnce p s) :
    requestArrives p r s = settle (takeRequest p r s) := by
  obtain ⟨up, idle, empty⟩ := h
  simp [requestArrives, arrive, up, idle, empty]

/-- R165: a request that is answered with a code and fields alone leaves that one response in the engine. -/
theorem takeRequest_replied (p : PortId) (tag : BitVec 8) (r : Request) (s t : State) (code : RespCode)
    (body : RespBody) (h : carryOut p tag r (taken p s) = (t, Answer.of code body)) (free : codeUses r = 0) :
    settle (takeRequest p ⟨tag, r⟩ s) = replied p tag r.code code body t := by
  have echo : ∀ n, answerCode r n = r.code := by
    intro n
    cases r <;> try rfl
    rename_i c
    cases c <;> simp_all [codeUses]
    rfl
  unfold takeRequest
  simp only [taken] at h
  simp only [h, echo, free]
  rfl

end Sys2Proof.Machine
end

