-- ==== Sys2Proof/Laws/Scans.lean ====
section
/-! SUPPORT. What a break cause, a scan start and a scan end do, as one equation each, in the terms of Safety.lean. -/

namespace Sys2Proof.Machine

/-! ### Breaks (R117, R118) -/

/-- R118 step 3: the rebreak of the ACTIVE record. -/
theorem rebreakAlarm_eq (s : State) : rebreakAlarm s = rebroken s := by
  unfold rebreakAlarm rebroken State.activeAlarm
  dsimp only
  split <;> rename_i h
  · have k : s.alarms.records.map (fun r =>
        if r.state = .active then { r with rebreaks := min (r.rebreaks + 1) 255 } else r) = s.alarms.records := by
      conv => rhs; rw [← List.map_id s.alarms.records]
      refine List.map_congr_left fun r hr => ?_
      have := List.find?_eq_none.1 h r hr
      simp_all
    rw [h, k]
  · rw [h]
    rfl

@[simp] theorem rebroken_trav (s : State) : (rebroken s).trav = s.trav := by
  unfold rebroken; dsimp only; split <;> simp
@[simp] theorem rebroken_mon (s : State) : (rebroken s).mon = s.mon := by
  unfold rebroken; dsimp only; split <;> simp

/-- R117, R118: a break cause where the break state permits scanning. -/
theorem breakCause_eq (cause : Cause) (scan : Nat) (pos : Option Nat) (s : State) (h : s.permits = true) :
    breakCause cause scan pos s = breakTaken cause scan pos s := by
  unfold breakCause breakTaken
  cases k : s.mon.state <;> simp only [State.permits, k] at h ⊢
  case recovery =>
    simp only [decide_true, if_true, redeclareBreak, breakEffects, State.onMon, State.mappingWidth, breakNotice,
      rebreakAlarm_eq, rebroken_mon, count_mon, count_trav, rebroken_trav]
  case brk => simp [BreakState.permits] at h
  case threading => simp [BreakState.permits] at h
  all_goals
    simp [declareBreak, breakEffects, State.onMon, State.mappingWidth, breakNotice, k]

/-! ### Apply events (R151 to R155) -/

/-- R155: everything an apply event does outside the setup store: its SETUP_APPLIED notice. -/
theorem onlyNotices_appliedAt (ids : List TallyId) (point : ApplyPoint) (picks : Armed → Bool) (s : State) :
    OnlyNotices ids { s with setup := s.setup.appliedBy picks } (appliedAt point picks s) := by
  unfold appliedAt
  dsimp only
  split
  · rename_i h
    rw [SetupStore.appliedBy_of_none _ _ h]
    exact .refl ids s
  · exact onlyNotices_notify ids _ _

@[simp] theorem appliedAt_trav (point : ApplyPoint) (picks : Armed → Bool) (s : State) :
    (appliedAt point picks s).trav = s.trav := (onlyNotices_appliedAt [] point picks s).trav
@[simp] theorem appliedAt_setup (point : ApplyPoint) (picks : Armed → Bool) (s : State) :
    (appliedAt point picks s).setup = s.setup.appliedBy picks := (onlyNotices_appliedAt [] point picks s).setup

/-- R114: values of other items leave the enables. -/
theorem enabled_foldl_put (line : Line) (l : List Armed) (a : Setup)
    (h : ∀ e ∈ l, e.item ≠ .breakLineEnable ∧ e.item ≠ .tailLineEnable) :
    (l.foldl (fun a e => a.put e.item e.value) a).enabled line = a.enabled line := by
  induction l generalizing a with
  | nil => rfl
  | cons e rest ih =>
    have k : (a.put e.item e.value).enabled line = a.enabled line := by
      obtain ⟨h1, h2⟩ := h e (by simp)
      obtain ⟨item, value, target, port⟩ := e
      cases item <;> cases value <;> first | rfl | exact absurd rfl h1 | exact absurd rfl h2
    rw [List.foldl_cons, ih _ (fun x hx => h x (by simp [hx])), k]

/-- R114: nothing is done for a line whose enable has not changed. -/
theorem enableInScanEnd_same (line : Line) (old : Setup) (s : State)
    (h : s.setup.active.enabled line = old.enabled line) : enableInScanEnd line old s = s := by
  simp [enableInScanEnd, justEnabled, resetLine, h]

/-- R153: the group falls due exactly at the scan end that reaches its last outstanding target. -/
theorem groupFallsDue_eq (v u : State) (n : Nat) (hu : u.trav.cur = none) (hv : v.trav.cur.isSome = true)
    (hn : v.trav.scanNumber = n) (hm : u.trav.scanNumber = n)
    (ha : v.armedOf .atStandardize = u.armedOf .atStandardize) :
    (!v.groupDue && u.groupDue) = groupFallsDue n u.setup.armed := by
  let at_ : Target → Bool
    | .next => false
    | .scan m => decide (m.toNat = n)
  let by_ : Target → Bool
    | .next => true
    | .scan m => decide (m.toNat ≤ n)
  have hv' : v.trav.cur.isNone = false := by simpa using hv
  have ru : u.reached = by_ := by
    funext g
    cases g <;> simp [State.reached, State.scanEnded, hu, hm, by_, Nat.le_iff_lt_or_eq]
  have rv (g : Target) : v.reached g = (by_ g && !at_ g) := by
    cases g <;> simp [State.reached, State.scanEnded, hv', hn, by_, at_]
    rw [Bool.eq_iff_iff]
    simp
    omega
  unfold State.groupDue groupFallsDue
  rw [ha]
  change _ = (((u.armedOf .atStandardize).map Armed.target).all by_ &&
    ((u.armedOf .atStandardize).map Armed.target).any at_)
  generalize u.armedOf .atStandardize = l
  simp only [ru, rv, List.all_map, List.any_map, Function.comp_def]
  have step (l : List Armed) : (l.all fun e => by_ e.target) = true →
      (l.all fun e => by_ e.target && !at_ e.target) = !(l.any fun e => at_ e.target) := by
    intro h
    induction l with
    | nil => rfl
    | cons e rest ih => simp_all
  cases h : l.all (fun e => by_ e.target)
  · simp
  · rw [step l h]
    cases l <;> simp

/-- R152, R153: the application at a scan end, `v` being the state while the scan was in progress. -/
theorem applyScanEnd_eq (v s : State) (hs : s.trav.cur = none) (hv : v.trav.cur.isSome = true)
    (hn : v.trav.scanNumber = s.trav.scanNumber) (ha : v.setup.armed = s.setup.armed)
    (ht : s.trav.state ≠ .standardizing) (hl : NoLineEnable s) :
    applyScanEnd v.groupDue s = scanEndApplied s := by
  have hg : (!v.groupDue && (appliedAt .scanEnd (scanEndPicks s.trav.scanNumber) s).groupDue) =
      groupFallsDue s.trav.scanNumber s.setup.armed := by
    have e : (appliedAt .scanEnd (scanEndPicks s.trav.scanNumber) s).armedOf .atStandardize =
        s.armedOf .atStandardize := by
      simp only [State.armedOf, appliedAt_setup, SetupStore.appliedBy_armed, List.filter_filter]
      refine List.filter_congr fun x _ => ?_
      by_cases c : x.item.cls = .atStandardize <;> simp [scanEndPicks, c]
    rw [groupFallsDue_eq v _ s.trav.scanNumber (by simpa using hs) hv hn (by simp)
      (by simpa [State.armedOf, ha] using e.symm)]
    simp only [groupFallsDue]
    rw [show List.filter _ _ = List.filter _ _ from e]
  unfold applyScanEnd
  dsimp only
  rw [applyArmed_eq, scanEndSelects_eq s hs]
  have he (line : Line) :
      (appliedAt .scanEnd (scanEndPicks s.trav.scanNumber) s).setup.active.enabled line =
        s.setup.active.enabled line := by
    rw [appliedAt_setup]
    exact enabled_foldl_put line _ _ fun e m => hl e (List.mem_filter.1 m).1
  have hd : testGroup v.groupDue (appliedAt .scanEnd (scanEndPicks s.trav.scanNumber) s) = scanEndApplied s := by
    have hw := appliedAt_trav .scanEnd (scanEndPicks s.trav.scanNumber) s
    unfold testGroup scanEndApplied
    dsimp only
    rw [hg]
    generalize appliedAt .scanEnd (scanEndPicks s.trav.scanNumber) s = w at hw
    rw [← hw] at ht
    cases groupFallsDue s.trav.scanNumber s.setup.armed <;> simp [ht, State.onTrav]
  rw [hd, enableInScanEnd_same, enableInScanEnd_same]
  · exact he .brk
  · rw [enableInScanEnd_same]
    · exact he .tail
    · exact he .brk

/-! ### Scan starts and scan ends (R15, R17, R76) -/

/-- R76: the set of a scan that ends otherwise than COMPLETE. -/
theorem freeAccumulating_eq (s : State) : freeAccumulating s = gatheringFreed s := by
  unfold freeAccumulating gatheringFreed
  cases s.edge.accumulating <;> simp [State.onSet, State.onEdge]

/-- R17: the report of a scan end other than COMPLETE. -/
theorem reportScanEnd_eq (code : EndCode) (width : Nat) (s : State) (h : code ≠ .complete) :
    reportScanEnd code width s = scanEndNoted code s := by
  unfold reportScanEnd scanEndNoted
  cases s.trav.cur <;> cases code <;> first | rfl | exact absurd rfl h

/-- R15: a scan starts. -/
theorem runScan_eq (i : SetId) (dir : Dir) (s : State) : runScan i dir s = scanBegun i dir s := by
  unfold runScan scanBegun
  have h := appliedAt_trav .scanStart (scanStartPicks s) s
  rw [applyAtScanStart_eq]
  generalize appliedAt .scanStart (scanStartPicks s) s = u at h
  rw [← h]
  cases dir <;> cases i <;> rfl

/-- R17: everything the report of a scan end leaves as it was. -/
theorem onlyNotices_scanEndNoted (code : EndCode) (s : State) :
    OnlyNotices [.scansComplete, .scansBroken, .scansStopped, .scansFaulted]
      { s with trav := { s.trav with cur := none } } (scanEndNoted code s) := by
  unfold scanEndNoted
  cases h : s.trav.cur with
  | none =>
    have e : { s with trav := { s.trav with cur := none } } = s := by rw [← h]
    rw [e]
    exact .refl _ s
  | some c =>
    refine ((onlyNotices_count _ 1 _).mono ?_).trans (onlyNotices_notify _ _ _)
    cases code <;> simp

/-- R17, R76, R152, R153: the scan in progress ends BROKEN, STOPPED or HEAD_FAULT. -/
theorem endScan_eq (code : EndCode) (s : State) (h : code ≠ .complete) (hc : s.trav.cur.isSome = true)
    (ht : s.trav.state ≠ .standardizing) (hl : NoLineEnable s) : endScan code s = scanDropped code s := by
  have k := onlyNotices_scanEndNoted code (gatheringFreed s)
  have kt : (scanEndNoted code (gatheringFreed s)).trav = { s.trav with cur := none } := k.trav
  have ks : (scanEndNoted code (gatheringFreed s)).setup = s.setup := k.setup
  rw [endScan, freeAccumulating_eq, reportScanEnd_eq code 0 _ h, scanDropped]
  exact applyScanEnd_eq s _ (by rw [kt]) hc (by rw [kt]) (by rw [ks]) (by rw [kt]; exact ht)
    (by rw [NoLineEnable, ks]; exact hl)

end Sys2Proof.Machine
end

