-- ==== Sys2Proof/Machine/Frames.lean ====
section
/-! DEFINITION. The bytes of the frames the part sends (chapter 11): responses, segments, notices, HOLD and PORT_RESET
on the service ports, and the head commands on the carriage link. -/

namespace Sys2Proof.Machine

/-! ### Fields (R187) -/

/-- The k bytes of a number, least significant first (chapter 11). -/
def leBytes (k v : Nat) : List Byte := (List.range k).map (fun i => BitVec.ofNat 8 (v / 256 ^ i))

/-- A one-byte code or count. -/
def byteOf (v : Nat) : Byte := BitVec.ofNat 8 v

/-- A flag: 0 or 1. -/
def flagByte (b : Bool) : Byte := if b then 1 else 0

/-- An optional field: a presence byte, then the field, sent as zeros when absent. -/
def optional (size : Nat) (v : Option (List Byte)) : List Byte :=
  match v with
  | some bytes => 1 :: bytes
  | none => 0 :: List.replicate size 0

/-- An optional number of k bytes. -/
def optNat (k : Nat) (v : Option Nat) : List Byte := optional k (v.map (leBytes k))

/-- A signed two-byte field. -/
def signed16 (v : Int) : List Byte := bytes16 (BitVec.ofInt 16 v)

/-- A set of ports: bit 0 SP0, bit 1 SP1, bit 2 SP2 (R187). DESIGN CHOICE: the other bits are sent as 0 (log
entry 37). -/
def portSetByte (v : PortSet) : Byte := byteOf (v.sp0.toNat + 2 * v.sp1.toNat + 4 * v.sp2.toNat)

/-! ### Codes (R187), each from 0 in the order its rule lists -/

def TravState.code : TravState → Nat
  | .idle => 0 | .parking => 1 | .standardizing => 2 | .positioning => 3
  | .scanning => 4 | .turnWait => 5 | .dwelling => 6 | .fault => 7

def Intent.code : Intent → Nat
  | .off => 0 | .scan => 1 | .dwell => 2

def BreakState.code : BreakState → Nat
  | .unproven => 0 | .sheetOn => 1 | .brk => 2 | .threading => 3 | .recovery => 4

def Dir.code : Dir → Nat
  | .fwd => 0 | .rev => 1

def EndCode.code : EndCode → Nat
  | .complete => 0 | .broken => 1 | .stopped => 2 | .headFault => 3

def StdResult.code : StdResult → Nat
  | .pass => 0 | .drift => 1 | .failShutter => 2 | .failSource => 3 | .failIr => 4 | .failDrift => 5

def Phase.code : Phase → Nat
  | .dark => 0 | .air => 1 | .zeroF => 2 | .zeroC => 3

def AlarmKind.code : AlarmKind → Nat
  | .brk => 0 | .hole => 1 | .edgeJump => 2 | .positionSlip => 3 | .stdDrift => 4 | .stdFail => 5

def AlarmState.code : AlarmState → Nat
  | .active => 0 | .cleared => 1

def AlarmEvent.code : AlarmEvent → Nat
  | .raised => 0 | .cleared => 1 | .rebreak => 2

def Cause.code : Cause → Nat
  | .line => 0 | .airRun => 1 | .noSheet => 2 | .dwellAir => 3 | .tail => 4 | .resume => 5 | .scans => 6

def RawState.code : RawState → Nat
  | .off => 0 | .edge => 1 | .thin => 2 | .on => 3

def FiltState.code : FiltState → Nat
  | .invalid => 0 | .on => 1 | .held => 2

def ApplyPoint.code : ApplyPoint → Nat
  | .commit => 0 | .scanStart => 1 | .scanEnd => 2 | .standardize => 3

def SetState.code : SetState → Nat
  | .free => 0 | .accumulating => 1 | .waiting => 2 | .finalizing => 3

def CalRange.code : CalRange → Nat
  | .fine => 0 | .coarse => 1

def RespCode.code : RespCode → Nat
  | .done => 0 | .clamped => 1 | .full => 2 | .wrongState => 3 | .notReady => 4 | .notHeld => 5 | .noData => 6
  | .unknownId => 7 | .notNeeded => 8 | .inconsistent => 9 | .badValue => 10 | .tooLate => 11 | .lineActive => 12
  | .malformed => 13

end Sys2Proof.Machine

namespace Sys2Proof

/-- The code of a take-effect class (R187). -/
def ItemClass.code : ItemClass → Nat
  | .atStandardize => 0 | .atScanEnd => 1 | .immediate => 2

/-- The byte of a port (11.2, Responses). -/
def PortId.code : PortId → Nat
  | .sp0 => 0 | .sp1 => 1 | .sp2 => 2

end Sys2Proof

namespace Sys2Proof.Machine

/-! ### Setup values and targets (11.2, Responses) -/

/-- A setup value as WRITE SETUP sends it; an unloaded curve has a point count of 0. -/
def valueBytes : SetupValue → List Byte
  | .scalar v => leBytes 4 v
  | .code c => [byteOf c]
  | .curve points => byteOf points.length :: points.flatMap (leBytes 2)

/-! ### Records (11.4) -/

/-- The standardization record, 40 bytes. -/
def recordBytes (r : StdRecord) : List Byte :=
  leBytes 2 r.number ++ [byteOf r.result.code] ++ leBytes 4 r.cd ++ leBytes 4 r.c0 ++ leBytes 4 r.a0 ++
    leBytes 4 r.b0 ++ leBytes 8 r.q0 ++ signed16 r.zf ++ signed16 r.zc ++ optNat 4 r.drift ++ leBytes 4 r.scan

/-- The alarm record, 15 bytes; for a kind other than BREAK the cause and the rebreak count are 0 (R187). -/
def alarmBytes (r : Alarm) : List Byte :=
  leBytes 2 r.id ++ [byteOf r.kind.code, byteOf r.state.code, byteOf ((r.cause.map Cause.code).getD 0)] ++
    leBytes 4 r.scan ++ optNat 2 r.pos ++ [byteOf r.rebreaks, portSetByte r.needed, portSetByte r.acked]

/-! ### Notices (11.4) -/

/-- The fields of a notice, in the order of its rule. DEDUCED: the item list of SETUP_SUPERSEDED has no count byte, its
committing port and target are sent as those of READ SETUP are, and the sample count of DWELL_AVERAGE takes 4 bytes (log
entry 16). -/
def noticeFields : Notice → List Byte
  | .scanEnd scan dir code => leBytes 4 scan ++ [byteOf dir.code, byteOf code.code]
  | .profileReady scan dir slipped stale recovery reseeded controlValid zones generation =>
    leBytes 4 scan ++ [byteOf dir.code, flagByte slipped, flagByte stale, flagByte recovery, flagByte reseeded,
      flagByte controlValid, flagByte zones] ++ leBytes 2 generation
  | .breakState new prev cause scan output refWidth rebreaks =>
    [byteOf new.code, byteOf prev.code, byteOf cause.code] ++ leBytes 4 scan ++ [flagByte output] ++
      optNat 2 refWidth ++ [byteOf rebreaks]
  | .alarm event record => byteOf event.code :: alarmBytes record
  | .stdDone record stale failCount => recordBytes record ++ [flagByte stale, byteOf failCount]
  | .setupApplied generation items point scan =>
    leBytes 2 generation ++ [byteOf items, byteOf point.code] ++ leBytes 4 scan
  | .setupSuperseded items byPort target atOnce =>
    items.map (fun i => byteOf i.id) ++ [byteOf byPort.code] ++ encodeTarget target ++ atOnce.map flagByte
  | .tallyMark tally value mode => byteOf tally.id :: leBytes 4 value ++ [byteOf mode.code]
  | .traverseState state intent dwellPos scan pos =>
    [byteOf state.code, byteOf intent.code] ++ leBytes 2 dwellPos ++ leBytes 4 scan ++ leBytes 2 pos
  | .dwellAverage dwellPos scan n bw mo ca =>
    leBytes 2 dwellPos ++ leBytes 4 scan ++ leBytes 4 n ++ leBytes 2 bw ++ optNat 2 mo ++ optNat 2 ca

/-! ### Responses (11.2, 11.3) -/

/-- A pair of mapping edges, optional. -/
def mappingBytes (m : Option Edges) : List Byte :=
  optional 4 (m.map (fun e => leBytes 2 e.front ++ leBytes 2 e.back))

/-- A set's state and scan number in READ STATUS (R26). -/
def setBytes (r : SetState × Option Nat) : List Byte := byteOf r.1.code :: optNat 4 r.2

/-- The fields of READ STATUS (R26). DESIGN CHOICE: of the accumulator sets, set X sends its state and then its scan
number, and then set Y does (log entry 30). DEDUCED: one presence byte stands before the fields of the current scan
(log entry 16). -/
def statusBytes (r : StatusReport) : List Byte :=
  [byteOf r.state.code, byteOf r.intent.code] ++ leBytes 2 r.dwellPos ++ leBytes 2 r.pos ++
    [flagByte r.atPark, flagByte r.stdDue, flagByte r.stdAtPark, flagByte r.linkUp, flagByte r.headPresent,
      byteOf r.failCount, byteOf r.sinceStd] ++ leBytes 4 r.scanNumber ++
    optional 6 (r.cur.map (fun c => leBytes 4 c.number ++ [byteOf c.dir.code, flagByte c.slipped])) ++
    setBytes r.setX ++ setBytes r.setY ++ mappingBytes r.mapping ++ [byteOf r.breakState.code] ++
    optNat 2 r.stdNumber ++ [flagByte r.stale] ++ leBytes 2 r.generation ++ [byteOf r.occupancy]

/-- The fields of a standardization in flight in READ STANDARDIZATION. DEDUCED: its sample count takes 4 bytes (log
entry 16). -/
def flightBytes (x : FlightReport) : List Byte :=
  [byteOf x.phase.code, flagByte x.counting] ++ leBytes 4 x.counted ++ [flagByte x.shutterError] ++
    leBytes 4 x.samples ++ leBytes 4 x.driftLimit

/-- The fields of READ STANDARDIZATION (R40). DEDUCED: one presence byte stands before each record, the last result and
the fields in flight (log entry 16). -/
def stdBytes (r : StdReport) : List Byte :=
  optional 40 (r.current.map recordBytes) ++ optional 40 (r.previous.map recordBytes) ++ [flagByte r.stale] ++
    optional 3 (r.lastResult.map (fun e => leBytes 2 e.1 ++ [byteOf e.2.code])) ++ optNat 1 r.retry ++
    [flagByte r.stdDue, flagByte r.stdAtPark, byteOf r.failCount] ++ leBytes 2 r.nextNumber ++
    optional 15 (r.flight.map flightBytes)

/-- A line in READ ALARMS (R135). -/
def lineBytes (l : LineReport) : List Byte :=
  [flagByte l.enable, flagByte l.level, flagByte l.debounced, flagByte l.running]

/-- The fields of READ ALARMS (R135). -/
def alarmReportBytes (r : AlarmReport) : List Byte :=
  [byteOf r.state.code, byteOf r.recovery] ++ optNat 2 r.refWidth ++ [flagByte r.stdInBreak] ++ lineBytes r.brk ++
    lineBytes r.tail ++ [flagByte r.output] ++ leBytes 2 r.nextId ++ [byteOf r.records.length] ++
    r.records.flatMap alarmBytes

/-- The statistics of one kind, 10 bytes; zeros when m is 0 (11.3, R187). -/
def statsBytes (v : Option Stats) : List Byte :=
  match v with
  | some t => leBytes 2 t.m ++ leBytes 2 t.mean ++ leBytes 2 t.sig2 ++ leBytes 2 t.least ++ leBytes 2 t.most
  | none => List.replicate 10 0

/-- The flags byte of the header (11.3, offset 16). DESIGN CHOICE: bits 7 and 6 are sent as 0 (log entry 37). -/
def headerFlags (h : TransferHeader) : Byte :=
  byteOf (h.header.slipped.toNat + 2 * h.header.stale.toNat + 4 * h.header.recovery.toNat +
    8 * h.header.reseeded.toNat + 16 * h.header.controlValid.toNat + 32 * h.zoneKind.isSome.toNat)

/-- The READ PROFILE header, 78 bytes (11.3). DEDUCED: the zone kind byte is 0 without a zone profile (log entry 16). -/
def headerBytes (h : TransferHeader) : List Byte :=
  let e := h.header
  leBytes 4 e.scan ++ [byteOf e.dir.code] ++ leBytes 2 e.edges.front ++ leBytes 2 e.edges.back ++
    leBytes 2 e.edges.width ++ mappingBytes e.mapping ++ [headerFlags h] ++ leBytes 2 e.generation ++
    leBytes 2 e.stdNumber ++ leBytes 2 e.binOrigin ++ [byteOf e.binWidth] ++ leBytes 2 e.binCount ++
    bytes32 e.accepted ++ statsBytes e.stats.bw ++ statsBytes e.stats.dw ++ statsBytes e.stats.mo ++
    statsBytes e.stats.ca ++ [byteOf ((h.zoneKind.map Kind.code).getD 0), byteOf h.zoneCount] ++
    leBytes 2 h.first ++ leBytes 2 h.last ++ leBytes 2 h.segments

/-- One entry of the tally response, 6 bytes (11.4). DESIGN CHOICE: bits 7 to 3 of its flags byte are sent as 0 (log
entry 37). -/
def tallyBytes (t : TallyRead) : List Byte :=
  byteOf t.tally.id :: leBytes 4 t.value ++ [byteOf (t.half.toNat + 2 * t.frozen.toNat + 4 * t.cleared.toNat)]

/-- The fields of a response after its code. DESIGN CHOICE: the new set that SUBSCRIBE's DONE carries (R172) is sent as
the request sends it, a mask of 2 bytes with bit (code − 1) for each notice kind; R187's type table and 11.2's Responses
give no encoding for it (log entry 38). -/
def bodyBytes : RespBody → List Byte
  | .empty => []
  | .position p => leBytes 2 p
  | .status r => statusBytes r
  | .standardization r => stdBytes r
  | .header h => headerBytes h
  | .alarms r => alarmReportBytes r
  | .occupancy n => [byteOf n]
  | .stagingCount n => [byteOf n]
  | .stagedValue v => valueBytes v
  | .activeItem item value generation =>
    [byteOf item.id, byteOf item.cls.code] ++ valueBytes value ++ leBytes 2 generation
  | .armedItem value target port => valueBytes value ++ encodeTarget target ++ [byteOf port.code]
  | .itemId item => [byteOf item.id]
  | .offender constraint item => [byteOf constraint, byteOf item.id]
  | .committed applied armed => [byteOf applied, byteOf armed]
  | .subscription mask => leBytes 2 mask.toNat
  | .tallies mode entries => [byteOf mode.code, byteOf entries.length] ++ entries.flatMap tallyBytes

/-- A RESPONSE payload (11.2). -/
def responseBytes (r : Response) : List Byte := [r.req, flagByte r.taken, byteOf r.code.code] ++ bodyBytes r.body

/-! ### Segments (11.3) -/

/-- The series of a segment. -/
def SegItems.code : SegItems → Nat
  | .raw _ => 0 | .filtered _ => 1 | .zones _ => 2 | .bounds _ => 3

/-- The number of items of a segment. -/
def SegItems.count : SegItems → Nat
  | .raw l => l.length
  | .filtered l => l.length
  | .zones l => l.length
  | .bounds l => l.length

/-- A RAW item (11.3). DEDUCED: an absent value is sent as zeros (log entry 16). DESIGN CHOICE: bits 6 to 2 of its state
byte are sent as 0 (log entry 37). -/
def rawItem (e : Option Nat × RawState) : List Byte :=
  leBytes 2 (e.1.getD 0) ++ [byteOf (e.2.code + 128 * e.1.isSome.toNat)]

/-- A FILTERED item (11.3). DEDUCED: an absent value is sent as zeros (log entry 16). DESIGN CHOICE: bit 6 of its state
byte is sent as 0 (log entry 37). -/
def filteredItem (v : FiltPart) : List Byte :=
  leBytes 2 (v.value.getD 0) ++ [byteOf (v.state.code + 4 * v.age + 128 * v.value.isSome.toNat)]

/-- Bits 9 and 8 of the bin count of zone i. DESIGN CHOICE: 0 past the last zone, so that the bits of the last high-bits
byte that belong to no item are sent as 0 when the number of zones is no multiple of 4; 11.3 gives bits only to items
that exist (log entry 37). -/
def highBits (l : List Zone) (i : Nat) : Nat := ((l[i]?.map Zone.count).getD 0) / 256 % 4

/-- The high-bits area of a zone-values segment (11.3). -/
def highBytes (l : List Zone) : List Byte :=
  (List.range ((l.length + 3) / 4)).map fun i =>
    byteOf (highBits l (4 * i) + 4 * highBits l (4 * i + 1) + 16 * highBits l (4 * i + 2) +
      64 * highBits l (4 * i + 3))

/-- A zone item. -/
def zoneItem (z : Zone) : List Byte := leBytes 2 (z.value.getD 0) ++ [byteOf (z.count % 256)]

/-- The items of a segment. -/
def SegItems.bytes : SegItems → List Byte
  | .raw l => l.flatMap rawItem
  | .filtered l => l.flatMap filteredItem
  | .zones l => highBytes l ++ l.flatMap zoneItem
  | .bounds l => l.flatMap (leBytes 2)

/-- A SEGMENT payload (11.3). DESIGN CHOICE: bits 7 to 5 of its first byte are sent as 0 (log entry 37). -/
def segmentBytes (g : Segment) : List Byte :=
  byteOf (g.items.code + 4 * g.kind.code + 16 * g.final.toNat) :: leBytes 2 g.first ++ [byteOf g.items.count] ++
    g.items.bytes

/-! ### Whole frames (R161, R186) -/

/-- The body of a frame the part sends on a port, before its CRC-16 (11.1, R161). -/
def TxFrame.body : TxFrame → List Byte
  | .response r => serviceBody 2 r.tag (responseBytes r)
  | .segment g => serviceBody 3 g.tag (segmentBytes g)
  | .notice n overrun => serviceBody 4 0 (byteOf n.code :: flagByte overrun :: noticeFields n)
  | .hold time => serviceBody 5 0 (leBytes 2 time)
  | .portReset tag => serviceBody 6 tag []

/-- R186: the bytes of a frame as sent on a port. -/
def TxFrame.bytes (f : TxFrame) : List Byte := wire f.body

/-- The body of a head command frame, before its CRC-16 (11.5). -/
def HeadFrame.body (f : HeadFrame) : List Byte :=
  match f.cmd with
  | .move target => 0x20 :: f.number :: leBytes 2 target
  | .park => [0x21, f.number]
  | .dark => [0x22, f.number]
  | .air => [0x23, f.number]
  | .zero range => [0x24, f.number, byteOf range.code]
  | .stop => [0x25, f.number]

/-- R186: the bytes of a head command frame as sent on the carriage link. -/
def HeadFrame.bytes (f : HeadFrame) : List Byte := wire f.body

/-- The bytes being sent on a port, if a frame is in sending. -/
def Port.line (q : Port) : Option (List Byte) := q.sending.map (fun x => x.frame.bytes)

end Sys2Proof.Machine
end

