-- ==== Sys2Proof/Tests/Slice0.lean ====
section
/-! SUPPORT. The model's own tests: ill-formed commands refused, the worked cases of the spec, one small test or two for
each command, and for each statement of the provers a witness that its hypotheses can hold. -/

namespace Sys2Proof.Tests

open Sys2Proof Sys2Proof.Machine

/-! ### Well-formedness: each check refuses a command -/

/-- R162: a payload of 513 bytes is too long for a REQUEST. -/
theorem test_wf_long_payload : (Instr.requestArrival .sp0 0 (List.replicate 513 6)).wellFormed = false := by
  simp only [Instr.wellFormed, payloadFits, List.length_replicate]
  decide

/-- R162: a payload of 512 bytes fits. -/
theorem test_wf_longest_payload : (Instr.requestArrival .sp0 0 (List.replicate 512 6)).wellFormed = true := by
  simp only [Instr.wellFormed, payloadFits, List.length_replicate]
  decide

/-- R165: a payload that parses is not a malformed request. -/
theorem test_wf_malformed_that_parses : (Instr.requestMalformed .sp0 0 [6]).wellFormed = false := by decide

/-- R162: a malformed payload is bounded too. -/
theorem test_wf_long_malformed : (Instr.requestMalformed .sp0 0 (List.replicate 513 6)).wellFormed = false := by
  simp only [Instr.wellFormed, payloadFits, List.length_replicate]
  decide

/-- Chapter 11, Requests: PARK_POS is a scalar item, so its value is four bytes. -/
theorem test_wf_wrong_form : (Instr.writeSetup .sp0 0 3 (.code 0)).wellFormed = false := by decide

/-- Chapter 11, Requests: the point count of a curve is one byte. -/
theorem test_wf_long_curve : (Instr.writeSetup .sp0 0 11 (.curve (List.replicate 256 0))).wellFormed = false := by
  show decide ((List.replicate 256 (0 : BitVec 16)).length ≤ 255) = false
  rw [List.length_replicate]
  decide

/-- A WRITE SETUP request names an item; a failed parse is no request. -/
theorem test_wf_requests :
    (Request.writeSetup 46 (.scalar 0)).wellFormed = false ∧ (Request.malformed (some 1)).wellFormed = false := by
  decide

/-! ### Frames (R186 to R188) -/

/-- R186: the CRC-16 of the nine digits under this polynomial and start value, the catalogue's check value. -/
theorem test_crc16 : crc16 [0x31, 0x32, 0x33, 0x34, 0x35, 0x36, 0x37, 0x38, 0x39] = 0x29B1 := by decide +kernel

/-- R186: the escape pairs of the two special bytes. -/
theorem test_escape : escape [0xA5, 0x00, 0xA6] = [0xA6, 0x05, 0x00, 0xA6, 0x06] := by decide

/-- R186: an escape byte before anything but 05 or 06 discards the frame. -/
theorem test_bad_escape : unescape [0xA6, 0x07] = none ∧ unescape [0xA6] = none := by decide

/-- 11.2: DWELL AT is code 3 with a position of two bytes, least significant byte first. -/
theorem test_parse_dwell_at : parseRequest [3, 0x10, 0x27] = .dwellAt 10000 := by decide

/-- 11.2: WRITE SETUP of item 11 with two points. -/
theorem test_parse_write_curve : parseRequest [13, 11, 2, 1, 0, 2, 0] = .writeSetup 11 (.curve [1, 2]) := by
  decide

/-- R187: a missing field, a field too many and an unknown code do not parse. -/
theorem test_parse_refuses :
    parseRequest [3, 0x10] = .malformed (some 3) ∧ parseRequest [1, 0] = .malformed (some 1) ∧
      parseRequest [20] = .malformed (some 20) ∧ parseRequest [] = .malformed none := by decide

/-- R188: the low seven bits of pos are a signed step of −64..63. -/
theorem test_reckoned_step :
    reckonedStep 63 = 63 ∧ reckonedStep 64 = -64 ∧ reckonedStep 127 = -1 ∧ reckonedStep 0xFF80 = 0 := by
  decide

/-! ### Conversion: the worked cases of chapter 3 -/

/-- BW_CURVE of the worked case around its segment: T[12] = 9,200 and T[13] = 8,400. -/
def bwPoints : List Nat := (List.range 33).map (fun i => 18800 - 800 * i)

/-- WATER_CURVE of the worked case around its segment: T[12] = 900 and T[13] = 700. -/
def waterPoints : List Nat := (List.range 33).map (fun i => 3300 - 200 * i)

/-- The record of the worked case. -/
def record : StdRecord :=
  { number := 1, result := .pass, cd := 2000, c0 := 402000, a0 := 380000, b0 := 400000, q0 := 62259, zf := 1200,
    zc := 400, drift := none, scan := 0 }

/-- The setup of the worked case. -/
def setup : Setup := { Setup.defaults with bwCurve := some bwPoints, waterCurve := some waterPoints }

/-- The sample of the worked case, with the given flags. -/
def worked (flags : BitVec 8) : SampleFrame := ⟨7, 9310, 162000, 300000, 400000, 5320, flags⟩

/-- Chapter 3, the worked scan sample. -/
theorem test_convert_worked :
    convert (some record) setup (worked 7) 9310 =
      some { pos := 9310, t := 26214, bw := 8560, water := some (774, 7786), cal := some 1030 } := by decide +kernel

/-- Chapter 3: without caliper contact the caliper part is absent; without source_ok the sample is rejected. -/
theorem test_convert_absent :
    (convert (some record) setup (worked 3) 9310).map Converted.cal = some none ∧
      convert (some record) setup (worked 5) 9310 = none := by decide

/-- Chapter 3: a COARSE reading of 1700 gives a caliper of 1,300. -/
theorem test_convert_coarse :
    (convert (some record) setup { worked 0x27 with calRaw := 1700 } 9310).map Converted.cal = some (some 1300) := by
  decide

/-- R44: G[5] = 10,000 and G[6] = 12,500 give 10,928 at 11,000. -/
theorem test_lookup : lookup ([0, 0, 0, 0, 0, 10000, 12500] ++ List.replicate 10 12500) 11000 = 10928 := by
  decide

/-- R44 item 3: halves round away from zero on a falling and on a rising segment. -/
theorem test_lookup_halves : lookup [10, 9] 1024 = 9 ∧ lookup [9, 10] 1024 = 10 := by decide

/-! ### Finalization: the worked examples of chapter 5 -/

/-- The snapshot of the worked examples: the defaults. -/
def snap : Snapshot :=
  ⟨0, 1, 600, 100, 200, 0, .dw, Setup.defaults.shrinkCurve, 62000, 4, 100, 60, 3, 400, 2, 3, 64, 64, 64, 64, 3⟩

/-- Chapter 5, finalizing scan 20: the raw states of bins 3, 4, 5, 191, 192 and 194. -/
theorem test_raw_states :
    let e : ScanEdges := ⟨1000, 19980, 18980⟩
    let b : Bin := ⟨10, 85600, 0, 0, 0, 0, 0⟩
    rawState snap e 3 .bw ⟨1, 8560, 0, 0, 0, 0, 0⟩ = .off ∧ rawState snap e 4 .bw b = .edge ∧
      rawState snap e 5 .bw b = .on ∧ rawState snap e 191 .bw b = .on ∧ rawState snap e 192 .bw b = .edge ∧
      rawState snap e 194 .bw b = .off := by decide

/-- Chapter 5, bin 46: the raw values of the four kinds. -/
theorem test_raw_values :
    let b : Bin := ⟨7, 59920, 7, 5418, 54502, 7, 7210⟩
    rawValue .bw b = some 8560 ∧ rawValue .dw b = some 7786 ∧ rawValue .mo b = some 904 ∧
      rawValue .ca b = some 1030 := by decide

/-- R84: the two filter steps of the worked example. -/
theorem test_filter_step : filterStep 8500 8560 64 = 8515 ∧ filterStep 910 904 64 = 908 := by decide

/-- Chapter 5, one bin held and given up: scans 53 and 54. -/
theorem test_filter_held :
    filtered 64 3 .thin none ⟨.held, some 8515, 2⟩ = ⟨.held, some 8515, 3⟩ ∧
      filtered 64 3 .thin (some 8590) ⟨.held, some 8515, 3⟩ = ⟨.invalid, none, 0⟩ := by decide

/-- Chapter 5, statistics of a short grid. -/
theorem test_statistics : statsOf [8560, 8540, 8600, 8520, 8580] = some ⟨5, 8560, 56, 8520, 8600⟩ := by decide

/-- Chapter 6, boundaries on a shrinking sheet: the curve's named points, the others on the segments between them. -/
def shrinking : List Nat :=
  [0, 2000, 4000, 6000, 8000, 10000, 12000, 14000, 16000, 18050, 20100, 22150, 24200, 26342, 28484, 30626, 32768]

/-- Chapter 6, zone values on a short grid: the filtered parts of its eight bins. -/
def shortCells : List Cell :=
  [⟨none, .thin, ⟨.invalid, none, 0⟩⟩, ⟨none, .thin, ⟨.held, some 7790, 1⟩⟩, ⟨some 7786, .on, ⟨.on, some 7786, 0⟩⟩,
   ⟨some 7801, .on, ⟨.on, some 7801, 0⟩⟩, ⟨some 7796, .on, ⟨.on, some 7796, 0⟩⟩,
   ⟨some 7770, .on, ⟨.on, some 7770, 0⟩⟩, ⟨none, .thin, ⟨.invalid, none, 0⟩⟩, ⟨none, .off, ⟨.invalid, none, 0⟩⟩]

/-- A set that has ended, on the short grid with three zones (chapter 6) or on the default grid. -/
def ended (sn : Snapshot) (m : Edges) : AccSet :=
  { AccSet.free with state := .finalizing, scan := 60, edges := some ⟨m.front, m.back, m.back - m.front⟩,
                     mapping := some m, snap := sn, bins := List.replicate sn.binCount ⟨0, 0, 0, 0, 0, 0, 0⟩ }

/-- The snapshot of the short grid. -/
def shortSnap : Snapshot := { snap with binCount := 8, zoneCount := 3 }

/-- The body of the short grid's entry. -/
def shortBody : PerKind (List Cell) := ⟨shortCells, shortCells, shortCells, shortCells⟩

/-- Chapter 6, boundaries on a shrinking sheet. -/
theorem test_zone_bounds :
    (zonesOf (ended { snap with zoneCount := 4, shrinkCurve := shrinking } ⟨1000, 20000⟩) ⟨[], [], [], []⟩).map
      ZoneProfile.bounds = some [1000, 5638, 10277, 15031, 20000] := by decide

/-- Chapter 6, zone values on a short grid. -/
theorem test_zone_values :
    zonesOf (ended shortSnap ⟨620, 1380⟩) shortBody =
      some ⟨.dw, [⟨some 7788, 2⟩, ⟨some 7799, 2⟩, ⟨some 7770, 1⟩], [620, 873, 1126, 1380]⟩ := by decide

/-! ### Small states -/

/-- A port that is UP with nothing waiting. -/
def up : Port := Port.afterReset true

/-- The links UP, the last sample number 6, the curves loaded, a record current, standardization not due, the last
motion command number 4. -/
def live : State :=
  { State.reset with
    link := { up := true, silence := some 20, lastSeq := some 6, headPresent := true, cmdNo := 4, lastMotion := some 4 }
    trav := { State.reset.trav with stdDue := false }
    std := { State.reset.std with current := some record, nextNumber := 2 }
    setup := { State.reset.setup with active := setup }
    ports := ⟨up, up, up⟩ }

/-- `live` in a traverse state with an intent. -/
def at_ (st : TravState) (i : Intent) : State := { live with trav := { live.trav with state := st, intent := i } }

/-- A state with another break state. -/
def inBreak (b : BreakState) (s : State) : State := { s with mon := { s.mon with state := b, output := b.open } }

/-- The set that gathers scan 1. -/
def gathering (dir : Dir) : AccSet :=
  { AccSet.free with state := .accumulating, scan := 1, dir := dir, snap := snap,
                     bins := List.replicate 200 ⟨0, 0, 0, 0, 0, 0, 0⟩ }

/-- A tracker between the edges, in bin 86. -/
def between : Tracker := ⟨0, none, some 1010, some 9250, none, some 86⟩

/-- Scan 1 in progress in set X. -/
def scanning (dir : Dir) (k : Tracker) : State :=
  { at_ .scanning .scan with
    trav := { (at_ .scanning .scan).trav with
                scanNumber := 1, cur := some ⟨1, dir, false⟩, moveTimer := some 30, pos := 9250,
                target := some (if dir = .fwd then .turnD else .turnF) }
    edge := { x := gathering dir, y := .free, mapping := none, jumps := 0, tracker := some k } }

/-- A standardization in flight with four samples a phase. -/
def flying (ph : Phase) (counting : Bool) (taken : Nat) : StdFlight :=
  { phase := ph, counting := counting, taken := taken, nDark := 4, sDark := 8000, nAir := 4, sAirBw := 1608000,
    sAirAbs := 1520000, sAirRef := 1655350, nFine := 1, sFine := 1200, nCoarse := 0, sCoarse := 0,
    shutterError := false, samples := 4, driftLimit := 200 }

/-- STANDARDIZING with that standardization in flight. -/
def standing (x : StdFlight) : State :=
  { at_ .standardizing .scan with
    std := { live.std with flight := some x }
    trav := { (at_ .standardizing .scan).trav with atPark := true, stdDue := true } }

/-- A state with a port replaced at SP0. -/
def withPort (q : Port) (s : State) : State := { s with ports := { s.ports with sp0 := q } }

/-- A ring entry of a scan on the default grid with one cell a kind. -/
def entry (n : Nat) (marked : Bool) : RingEntry :=
  let c : List Cell := [⟨some 8500, .on, ⟨.on, some 8500, 0⟩⟩]
  { header :=
      { scan := n, dir := .fwd, edges := ⟨1000, 20000, 19000⟩, mapping := some ⟨1000, 20000⟩, slipped := false,
        stale := false, recovery := false, reseeded := true, controlValid := false, generation := 0, stdNumber := 1,
        binOrigin := 600, binWidth := 100, binCount := 200, accepted := 1, stats := ⟨none, none, none, none⟩ }
    body := ⟨c, c, c, c⟩, zones := none, marked := marked }

/-- A CLEARED or ACTIVE alarm record that SP0 alone must acknowledge. -/
def alarm (id : Nat) (st : AlarmState) : Alarm :=
  ⟨id, if st = .active then .brk else .hole, st, none, 1, none, 0, ⟨true, false, false⟩, ⟨false, false, false⟩⟩

/-- A response of a request the engine has taken. -/
def answer : TxFrame := .response ⟨5, 6, true, .done, .empty⟩

/-- A TRAVERSE_STATE notice and a PROFILE_READY notice. -/
def moved : Notice := .traverseState .idle .off 0 0 0
def ready : Notice := .profileReady 1 .fwd false false false true false false 0

/-- The state a command leaves. -/
def got (o : Host.Outcome State Fault Refusal) : State :=
  match o with
  | .next t => t
  | _ => State.reset

/-- The code and fields of the one response a port's engine holds. -/
def replies (p : PortId) (o : Host.Outcome State Fault Refusal) : Option (RespCode × RespBody) :=
  match ((got o).ports.get p).engine with
  | some ⟨.response r :: _, _⟩ => some (r.code, r.body)
  | _ => none

/-! ### One command at a time -/

/-- R7, R160: device reset drops a scan and keeps the link lines. -/
theorem test_device_reset :
    let t := got (exec .deviceReset (scanning .fwd between))
    t.trav.state = .idle ∧ t.trav.stdDue = true ∧ t.edge.x.state = .free ∧ t.ports.sp0.linkUp = true := by
  decide

/-- R69 to R71: the worked sample of chapter 3 enters bin 87, once. -/
theorem test_sample_binned :
    let t := got (exec (.sample (worked 7)) (scanning .fwd between))
    t.edge.x.bins[87]? = some ⟨1, 8560, 1, 774, 7786, 1, 1030⟩ ∧ t.edge.x.accepted = 1 ∧ t.trav.pos = 9310 ∧
      (got (exec (.sample (worked 7)) t)).edge.x.accepted = 1 := by decide

/-- R4: the same sample after the seq 4 is added too, and counts two samples missing. -/
theorem test_sample_after_a_gap :
    let s := scanning .fwd between
    let t := got (exec (.sample (worked 7)) { s with link := { s.link with lastSeq := some 4 } })
    t.tallies.samplesMissing.value = 2 ∧ t.link.lastSeq = some 7 ∧ t.edge.x.accepted = 1 := by decide

/-- R70: in a REV scan the same sample lies behind the fill pointer at bin 85 and is rejected. -/
theorem test_sample_backtrack :
    let t := got (exec (.sample (worked 7)) (scanning .rev { between with fill := some 85 }))
    t.edge.x.accepted = 0 ∧ t.tallies.samplesRejected.value = 1 := by decide

/-- R12: arrival at park with standardization due and intent SCAN begins a standardization with DARK. -/
theorem test_arrived_at_park :
    let s := at_ .parking .scan
    let t := got (exec (.arrived 4 100) { s with trav := { s.trav with stdDue := true } })
    t.trav.state = .standardizing ∧ t.carriageTx = [⟨5, .dark⟩] ∧ t.trav.atPark = true ∧ t.trav.moveTimer = none := by
  decide

/-- R15, R16: a COMPLETE scan end hands set X over and starts scan 2 in set Y, REV. -/
theorem test_arrived_at_scan_end :
    let t := got (exec (.arrived 4 20800) (scanning .fwd between))
    t.edge.x.state = .finalizing ∧ t.edge.y.state = .accumulating ∧ t.trav.cur = some ⟨2, .rev, false⟩ ∧
      t.carriageTx = [⟨5, .move 400⟩] := by decide

/-- R23: a HEAD_STATUS with fault set stops the head and drops the scan. -/
theorem test_head_status_fault :
    let t := got (exec (.headStatus 3) (scanning .fwd between))
    t.trav.state = .fault ∧ t.carriageTx = [⟨5, .stop⟩] ∧ t.edge.x.state = .free ∧
      t.tallies.scansFaulted.value = 1 := by decide

/-- R3: a frame whose check fails leaves the link DOWN; an unknown type sets it UP. -/
theorem test_carriage_frames :
    (got (exec .carriageFrameDiscarded State.reset)).link.up = false ∧
      (got (exec .carriageFrameUnknownType State.reset)).link.silence = some 20 := by decide

/-- R3: silence in IDLE drops head-at-park and no head fault is taken. -/
theorem test_silence_in_idle :
    let s := at_ .idle .off
    let t := got (exec .silenceTimerExpiry { s with trav := { s.trav with atPark := true } })
    t.link.up = false ∧ t.trav.state = .idle ∧ t.trav.atPark = false ∧ t.trav.stdDue = true := by decide

/-- R10, R23: the running move timer expires in POSITIONING. -/
theorem test_move_timer :
    let s := at_ .positioning .scan
    (got (exec .moveTimerExpiry { s with trav := { s.trav with moveTimer := some 30 } })).trav.state = .fault := by
  decide

/-- R115: an asserted break line starts its timer; its expiry declares a break from SHEET_ON. -/
theorem test_break_line :
    let t := got (exec (.lineLevelChange .brk true) (inBreak .sheetOn (at_ .idle .off)))
    let u := got (exec (.lineDebounceExpiry .brk) t)
    t.mon.brk = ⟨true, false, some 50⟩ ∧ u.mon.state = .brk ∧ u.mon.output = true ∧ u.tallies.breaks.value = 1 ∧
      u.alarms.records.map Alarm.id = [1] := by decide

/-- R77, R80: FINALIZED frees the set and adds its scan to the ring, reseeded on the first entry. -/
theorem test_finalized :
    let s := at_ .idle .off
    let t := got (exec .finalized { s with edge := { s.edge with x := ended shortSnap ⟨620, 1380⟩ } })
    t.edge.x.state = .free ∧ t.ring.scans = [60] ∧ t.ring.entries.map (fun e => e.header.reseeded) = [true] := by
  decide

/-- R163: a request arriving while the engine is busy waits in the inbound queue; at 8 it is refused FULL. -/
theorem test_request_arrival :
    let busy := { up with engine := some ⟨[answer], false⟩ }
    (got (exec (.requestArrival .sp0 9 [6]) (withPort busy live))).ports.sp0.inbound = [⟨9, .readStatus⟩] ∧
      (got (exec (.requestArrival .sp0 9 [6])
        (withPort { busy with inbound := List.replicate 8 ⟨1, .readStatus⟩ } live))).ports.sp0.refusals.length = 1 := by
  decide

/-- R165: a payload that does not parse is answered MALFORMED. -/
theorem test_request_malformed :
    replies .sp0 (exec (.requestMalformed .sp0 9 [99]) live) = some (.malformed, .empty) := by decide

/-- R11: SCAN START in IDLE away from park sends PARK; without a curve it is refused NOT_READY. -/
theorem test_scan_start :
    (got (exec (.scanStartRequest .sp0 1) (at_ .idle .off))).carriageTx = [⟨5, .park⟩] ∧
      replies .sp0 (exec (.scanStartRequest .sp0 1) { State.reset with ports := ⟨up, up, up⟩ }) =
        some (.notReady, .empty) := by decide

/-- R19: SCAN STOP in SCANNING ends the scan STOPPED and parks. -/
theorem test_scan_stop :
    let t := got (exec (.scanStop .sp0 1) (scanning .fwd between))
    t.trav.state = .parking ∧ t.trav.intent = .off ∧ t.tallies.scansStopped.value = 1 ∧ t.edge.x.state = .free := by
  decide

/-- R20: DWELL AT below TURN_F is clamped to it. -/
theorem test_dwell_at :
    replies .sp0 (exec (.dwellAt .sp0 1 399) (at_ .idle .off)) = some (.clamped, .position 400) ∧
      replies .sp0 (exec (.dwellAt .sp0 1 400) (at_ .idle .off)) = some (.done, .empty) := by decide

/-- R25: STANDARDIZE NOW in SCANNING sets both flags and moves nothing. -/
theorem test_standardize_now :
    let t := got (exec (.standardizeNow .sp0 1) (scanning .fwd between))
    t.trav.stdDue = true ∧ t.trav.stdAtPark = true ∧ t.trav.state = .scanning ∧ t.carriageTx = [] := by decide

/-- R24: CLEAR FAULT leaves FAULT for PARKING; outside FAULT it is refused. -/
theorem test_clear_fault :
    (got (exec (.clearFault .sp0 1) (at_ .fault .scan))).trav.state = .parking ∧
      replies .sp0 (exec (.clearFault .sp0 1) (at_ .idle .scan)) = some (.wrongState, .empty) := by decide

/-- R26, R40, R135: the three snapshots are answered DONE. -/
theorem test_reads :
    (replies .sp0 (exec (.readStatus .sp0 1) live)).map Prod.fst = some .done ∧
      (replies .sp1 (exec (.readStandardization .sp1 1) live)).map Prod.fst = some .done ∧
      (replies .sp2 (exec (.readAlarms .sp2 1) live)).map Prod.fst = some .done := by decide

/-- Chapter 5, one transfer: bins 0 to 700 of a grid of 200 are CLAMPED to 199, in six segments. -/
theorem test_read_profile :
    let c : List Cell := List.replicate 200 ⟨some 8500, .on, ⟨.on, some 8500, 0⟩⟩
    let e : RingEntry := { entry 7 false with
      body := ⟨c, c, c, c⟩, zones := some ⟨.dw, List.replicate 4 ⟨none, 0⟩, [0, 1, 2, 3, 4]⟩ }
    let t := got (exec (.readProfile .sp0 1 .latest 1 7 0 700)
      { live with ring := { live.ring with entries := [e] } })
    (t.ports.sp0.engine.map fun j => j.frames.map fun f => match f with
      | .segment g => (g.first, g.items.count, g.final)
      | _ => (0, 0, false)) =
        some [(0, 0, false), (0, 128, false), (128, 72, false), (0, 128, false), (128, 72, false), (0, 4, false),
              (0, 5, true)] ∧
      t.ring.pins.sp0 = some 7 := by decide +kernel

/-- Chapter 5, pins, eviction and a flush: 32 and 33 are removed, the pinned 30 and 34 marked. -/
theorem test_flush_profiles :
    let r : Ring := ⟨[entry 30 false, entry 32 false, entry 33 false, entry 34 false], ⟨none, some 30, some 34⟩, false,
      0, false⟩
    let t := got (exec (.flushProfiles .sp0 1) { live with ring := r })
    t.ring.scans = [30, 34] ∧ t.ring.entries.map RingEntry.marked = [true, true] ∧ t.ring.flush = true := by
  decide

/-- R121, R122: RESUME SHEET in BREAK leads to RECOVERY and sets standardization due; in SHEET_ON it is refused. -/
theorem test_resume_sheet :
    let t := got (exec (.resumeSheet .sp0 1) (inBreak .brk (at_ .idle .off)))
    t.mon.state = .recovery ∧ t.trav.stdDue = true ∧
      replies .sp0 (exec (.resumeSheet .sp0 1) (inBreak .sheetOn live)) = some (.wrongState, .empty) := by
  decide

/-- R131, R132: the last acknowledgement of a CLEARED record removes it; an unknown id is refused. -/
theorem test_acknowledge_alarm :
    let s : State := { live with alarms := ⟨[alarm 3 .cleared], 4⟩ }
    (got (exec (.acknowledgeAlarm .sp0 1 3) s)).alarms.records = [] ∧
      replies .sp0 (exec (.acknowledgeAlarm .sp0 1 4) s) = some (.unknownId, .empty) := by decide

/-- R138: a scalar above its range is staged at its top, CLAMPED. -/
theorem test_write_setup :
    let o := exec (.writeSetup .sp0 1 45 (.scalar 0xFFFFFFFF)) live
    (got o).setup.staging.sp0 = [⟨.holdTime, .scalar 65535⟩] ∧
      replies .sp0 o = some (.clamped, .stagedValue (.scalar 65535)) := by decide

/-- R143: the ACTIVE copy of TURN_F, and NO_DATA for its armed copy. -/
theorem test_read_setup :
    replies .sp0 (exec (.readSetup .sp0 1 1 0) live) = some (.done, .activeItem .turnF (.scalar 400) 0) ∧
      replies .sp0 (exec (.readSetup .sp0 1 1 1) live) = some (.noData, .itemId .turnF) := by decide

/-- The staging list of SP0 with one entry. -/
def staged (e : Staged) (s : State) : State :=
  { s with setup := { s.setup with staging := ⟨[e], [], []⟩ } }

/-- R142: DISCARD STAGING empties the list of its port alone. -/
theorem test_discard_staging :
    let l : PerPort (List Staged) := ⟨[⟨.turnF, .scalar 300⟩], [⟨.turnF, .scalar 301⟩], []⟩
    let s : State := { live with setup := { live.setup with staging := l } }
    (got (exec (.discardStaging .sp0 1) s)).setup.staging = ⟨[], [⟨.turnF, .scalar 301⟩], []⟩ := by decide

/-- R139, R147: PARK_POS at TURN_F fails constraint 1 and names PARK_POS; an IMMEDIATE item applies at once. -/
theorem test_commit_setup :
    replies .sp0 (exec (.commitSetup .sp0 1 .next) (staged ⟨.parkPos, .scalar 400⟩ live)) =
        some (.inconsistent, .offender 1 .parkPos) ∧
      (got (exec (.commitSetup .sp0 1 .next) (staged ⟨.holdTime, .scalar 200⟩ live))).setup.active.holdTime = 200 := by
  decide

/-- R172: SUBSCRIBE replaces the set; a mark outside the ten kinds is MALFORMED. -/
theorem test_subscribe :
    (got (exec (.subscribe .sp1 1 0x3FF) live)).ports.sp1.subs = 0x3FF ∧
      replies .sp1 (exec (.subscribe .sp1 1 0x400) live) = some (.malformed, .empty) := by decide

/-- Chapter 10, a frozen tally: a read without clear resets FRAMES_BAD and leaves BREAKS. -/
theorem test_read_tallies :
    let s : State := { live with
      setup := { live.setup with active := { setup with tallyMode := .freeze } }
      tallies := { TallyBank.zero with breaks := ⟨12, false⟩, framesBad := ⟨4294967295, true⟩ } }
    let o := exec (.readTallies .sp0 1 0x2010 false) s
    replies .sp0 o = some (.done, .tallies .freeze
        [⟨.breaks, 12, false, false, false⟩, ⟨.framesBad, 4294967295, true, true, true⟩]) ∧
      (got o).tallies.framesBad = ⟨0, false⟩ ∧ (got o).tallies.breaks = ⟨12, false⟩ := by decide

/-- R184: CLEAR TALLIES clears values and flags. -/
theorem test_clear_tallies :
    (got (exec (.clearTallies .sp0 1) { live with tallies := { TallyBank.zero with holes := ⟨7, true⟩ } })).tallies =
      TallyBank.zero := by decide

/-- R166: a HOLD puts the master hold in force; a HOLD of 0 ends it; its expiry ends it. -/
theorem test_hold :
    let t := got (exec (.hold .sp0 1) live)
    t.ports.sp0.masterHold = some 1 ∧ (got (exec (.hold .sp0 0) t)).ports.sp0.masterHold = none ∧
      (got (exec (.masterHoldExpiry .sp0) t)).ports.sp0.masterHold = none := by decide

/-- R164: the part hold is renewed while the occupancy calls for it. -/
theorem test_part_hold :
    let q := { up with engine := some ⟨[answer], false⟩, inbound := List.replicate 6 ⟨1, .readStatus⟩,
                       holdSent := true, partTimer := some 100, masterHold := some 5 }
    ((got (exec (.partHoldExpiry .sp0) (withPort q live))).ports.sp0.sending.map Sending.frame) = some (.hold 100) := by
  decide

/-- R173, R174: a PORT_RESET empties the queues and answers with its tag. -/
theorem test_port_reset :
    let q := { up with inbound := [⟨1, .readStatus⟩], notices := [moved], subs := 1 }
    let t := (got (exec (.portReset .sp0 9) (withPort q live))).ports.sp0
    t.inbound = [] ∧ t.notices = [] ∧ t.subs = 0 ∧ t.sending = some ⟨.portReset 9, .resetAnswer, false⟩ := by
  decide

/-- R162: a discarded frame counts FRAMES_BAD at an UP port. -/
theorem test_service_frame_discarded :
    (got (exec (.serviceFrameDiscarded .sp2) live)).tallies.framesBad.value = 1 := by decide

/-- R160: the link line's fall and rise. -/
theorem test_link_lines :
    let t := got (exec (.linkLineFall .sp0) live)
    t.ports.sp0.linkUp = false ∧ (got (exec (.linkLineRise .sp0) t)).ports.sp0.linkUp = true := by decide

/-- R167: the end of a response's sending idles the engine, and the waiting notice goes out. -/
theorem test_frame_sent :
    let q := { up with engine := some ⟨[answer], false⟩, notices := [moved], sending := some ⟨answer, .engine, false⟩ }
    let t := (got (exec (.frameSent .sp0) (withPort q live))).ports.sp0
    t.engine = none ∧ t.sending = some ⟨.notice moved false, .notice, false⟩ := by decide

/-- A step takes the command at the front of the queue and leaves the rest (log entry 1). -/
theorem test_step :
    (got (step { live with pending := [.hold .sp0 7, .finalized] })).pending = [.finalized] ∧
      (got (step { live with pending := [.hold .sp0 7] })).ports.sp0.masterHold = some 7 := by decide

/-! ### Witnesses: the hypotheses of each statement, clause by clause, hold together somewhere -/

/-- StepRunsTheFrontCommand. -/
theorem witness_step_runs :
    ({ live with pending := [.finalized] } : State).pending = Instr.finalized :: [] ∧ State.reset.pending = [] := by
  decide

/-- RequestPayloadsAreReadBack: the longest curve a WRITE SETUP can carry, and a scalar. -/
theorem witness_request_payloads :
    (Request.writeSetup 11 (.curve (List.replicate 255 0xFFFF))).wellFormed = true ∧
      (Request.writeSetup 45 (.scalar 0xFFFFFFFF)).wellFormed = true ∧ Request.clearTallies.wellFormed = true := by
  decide +kernel

/-- ServiceFramesAreReadBack: the longest payload, all of it delimiters. -/
theorem witness_service_frames : (List.replicate 512 (0xA5 : Byte)).length ≤ 512 := by
  rw [List.length_replicate]

/-- CarriageFramesAreReadBack: each report of the head has its frame. -/
theorem witness_carriage_frames :
    (∃ b, encodeHead (.sample (worked 255)) = some b) ∧ (∃ b, encodeHead (.arrived 255 0xFFFF) = some b) ∧
      (∃ b, encodeHead (.headStatus 255) = some b) := ⟨⟨_, rfl⟩, ⟨_, rfl⟩, ⟨_, rfl⟩⟩

/-- A service frame's raw bytes, closed by its CRC-16. -/
def raw (kind tag : Byte) (l : BitVec 16) (payload : List Byte) : List Byte :=
  escape ((kind :: tag :: bytes16 l ++ payload) ++ bytes16 (crc16 (kind :: tag :: bytes16 l ++ payload)))

/-- What `raw` unescapes to. -/
def clear (kind tag : Byte) (l : BitVec 16) (payload : List Byte) : List Byte :=
  (kind :: tag :: bytes16 l ++ payload) ++ bytes16 (crc16 (kind :: tag :: bytes16 l ++ payload))

/-- FramesAreFoundAndChecked: bytes before the first delimiter, a body too short for its CRC-16, one frame of each kind
that R162 discards, an UP port. -/
theorem witness_frames_checked :
    (0xA5 : Byte) ∉ [0xA6, 0x05] ∧ (∀ front, unescape [] ≠ some (front ++ bytes16 (crc16 front))) ∧
      (unescape (raw 1 0 513 []) = some (clear 1 0 513 []) ∧ 512 < (513 : BitVec 16).toNat) ∧
      (unescape (raw 1 0 1 []) = some (clear 1 0 1 []) ∧ (1 : BitVec 16).toNat ≠ ([] : List Byte).length) ∧
      (unescape (raw 2 0 0 []) = some (clear 2 0 0 []) ∧ (2 : Byte) ≠ 1 ∧ (2 : Byte) ≠ 5 ∧ (2 : Byte) ≠ 6) ∧
      (unescape (raw 5 0 1 [7]) = some (clear 5 0 1 [7]) ∧ [(7 : Byte)].length ≠ 2) ∧
      (unescape (raw 6 0 1 [7]) = some (clear 6 0 1 [7]) ∧ [(7 : Byte)] ≠ []) ∧
      (live.ports.get .sp0).linkUp = true := by
  refine ⟨by decide, ?_, by decide +kernel, by decide +kernel, by decide +kernel, by decide +kernel, by decide +kernel,
    rfl⟩
  intro front h
  have h2 := congrArg List.length (Option.some.inj h)
  simp [bytes16] at h2

/-- FramesAreFoundAndChecked: a service body one byte too short with its CRC-16 right; carriage bodies of an unknown
type, of a wrong length for each type, and of their CRC-16 alone. -/
theorem witness_short_and_unknown_bodies :
    let sent (front : List Byte) : List Byte := escape (front ++ bytes16 (crc16 front))
    (unescape (sent [1, 0, 0]) = some ([1, 0, 0] ++ bytes16 (crc16 [1, 0, 0])) ∧
      ([1, 0, 0] ++ bytes16 (crc16 [1, 0, 0])).length = 5 ∧ serviceCommand .sp0 (sent [1, 0, 0]) = .serviceFrameDiscarded .sp0) ∧
      ∀ front ∈ [[0x13, 0], [0x10, 0], [0x11, 0, 0], [0x12], []],
        unescape (sent front) = some (front ++ bytes16 (crc16 front)) ∧
          ¬ (front.head? = some 0x10 ∧ front.length = 17) ∧ ¬ (front.head? = some 0x11 ∧ front.length = 4) ∧
          ¬ (front.head? = some 0x12 ∧ front.length = 2) ∧ carriageCommand (sent front) = .carriageFrameUnknownType := by
  decide +kernel

/-- NoticesFollowTheSubscriptions: a subscribed port with 15 notices; a first PROFILE_READY, with one in sending; a
SETUP_SUPERSEDED at a port without a subscription; a PROFILE_READY waiting with and without a notice in sending; the
masks 1023 and 1024. -/
theorem witness_subscriptions :
    let q : Port := { up with subs := 256, notices := List.replicate 15 moved }
    let s := withPort q live
    let told : Notice := .setupSuperseded [.turnF] .sp1 .next [false]
    (moved.code ≠ 7 ∧ moved.isProfileReady = false ∧
      (∀ p ∈ [PortId.sp0, .sp1, .sp2],
        (s.ports.get p).subs.getLsbD (moved.code - 1) = true → (s.ports.get p).notices.length < 16) ∧
      (s.ports.get .sp0).subs.getLsbD (moved.code - 1) = true) ∧
    (let q : Port := { up with subs := 1023, notices := [ready, moved], sending := some ⟨.notice ready false, .notice, false⟩ };
      ready.code ≠ 7 ∧ q.notices.length < 16 ∧ q.subs.getLsbD (ready.code - 1) = true ∧
        q.sending.map Sending.source = some .notice ∧ ∀ x ∈ q.notices.drop 1, x.isProfileReady = false) ∧
    (told.code = 7 ∧ ((withPort { q with subs := 0 } live).ports.get .sp0).notices.length < 16) ∧
    (let q : Port := { up with notices := [moved] ++ [moved] ++ ready :: [moved],
                               sending := some ⟨.notice moved false, .notice, false⟩ };
      [moved] = (if q.sending.map Sending.source = some .notice then q.notices.take 1 else []) ∧
        q.notices = [moved] ++ [moved] ++ ready :: [moved] ∧ ready.isProfileReady = true ∧
        (∀ x ∈ [moved], x.isProfileReady = false)) ∧
    (let q : Port := { up with notices := [] ++ [] ++ ready :: [] };
      [] = (if q.sending.map Sending.source = some .notice then q.notices.take 1 else []) ∧
        q.notices = [] ++ [] ++ ready :: []) ∧
    TakesAtOnce .sp0 live ∧ (1023 : BitVec 16).toNat < 1024 ∧ 1024 ≤ (1024 : BitVec 16).toNat := by decide

/-- OverflowDropsOneNotice: a full queue, its first notice in sending; a drop counted short of the half mark and one
that crosses it, with a second full queue that has subscribed to TALLY_MARK. -/
theorem witness_overflow :
    let q : Port := { up with notices := List.replicate 16 moved, sending := some ⟨.notice moved false, .notice, false⟩ };
    let s (v : Nat) : State :=
      { live with ports := ⟨q, { q with subs := 128 }, { up with subs := 128 }⟩
                  tallies := { TallyBank.zero with noticesDropped := ⟨v, false⟩ } }
    ([moved] = (if q.sending.map Sending.source = some .notice then q.notices.take 1 else []) ∧
      q.notices = [moved] ++ List.replicate 15 moved ∧ q.notices.length = 16 ∧
      ¬ (ready.isProfileReady = true ∧ ∃ x ∈ List.replicate 15 moved, x.isProfileReady = true)) ∧
      (((s 0).ports.get .sp0).notices.length = 16 ∧ ((s 0).tallies.get .noticesDropped).value ≠ 2147483647) ∧
      (((s 2147483647).tallies.get .noticesDropped).value = 2147483647 ∧
        ∀ x ∈ [PortId.sp0, .sp1, .sp2], ((s 2147483647).ports.get x).notices.length ≤ 16) := by decide

/-- R170, R181: that second drop is counted too, and has no mark of its own. -/
theorem test_drop_crosses_the_half_mark :
    let q : Port := { up with notices := List.replicate 16 moved }
    let s : State :=
      { live with ports := ⟨q, { q with subs := 128 }, { up with subs := 128 }⟩
                  tallies := { TallyBank.zero with noticesDropped := ⟨2147483647, false⟩ } }
    let t := queueAt moved .sp0 s
    t.tallies.noticesDropped = ⟨2147483649, true⟩ ∧
      t.ports.sp2.notices = [.tallyMark .noticesDropped 2147483648 .wrap] ∧ t.ports.sp1.notices.length = 16 := by
  decide

/-- CountsFollowTheTallyMode: counts that just cross the half mark, that start on it, and that wrap. -/
theorem witness_counts :
    let at' (v : Nat) : State := { live with tallies := { TallyBank.zero with samplesMissing := ⟨v, false⟩ } }
    let after (v amount : Nat) := if v + amount ≤ 4294967295 then v + amount else v + amount - 4294967296
    (((at' 2147483647).tallies.get .samplesMissing).value < 2147483648 ∧ 2147483648 ≤ after 2147483647 1) ∧
      ¬ (((at' 2147483648).tallies.get .samplesMissing).value < 2147483648 ∧ 2147483648 ≤ after 2147483648 1) ∧
      ¬ (((at' 4294967295).tallies.get .samplesMissing).value < 2147483648 ∧ 2147483648 ≤ after 4294967295 1) ∧
      TallyId.samplesMissing ≠ .noticesDropped := by decide

/-- SenderTakesTheFirstWaitingFrame: a DOWN port, a busy sender, and one port for each frame it may take. -/
theorem witness_sender :
    let r : Response := ⟨1, 2, false, .full, .occupancy 8⟩
    let free (q : Port) : Prop := q.linkUp = true ∧ q.sending = none
    (Port.afterReset false).linkUp = false ∧
      ({ up with sending := some ⟨answer, .engine, false⟩ } : Port).sending.isSome = true ∧
      free { up with resetAnswer := some 9, holdsOut := [100] } ∧
      (free { up with holdsOut := [100] } ∧ up.resetAnswer = none) ∧
      (free { up with masterHold := some 1, refusals := [r] } ∧ up.holdsOut = []) ∧
      (free { up with refusals := [r] } ∧ up.masterHold = none) ∧
      (free { up with engine := some ⟨[answer], false⟩ } ∧ up.refusals = []) ∧
      (free { up with notices := [moved] } ∧ up.engine = none) ∧ (free up ∧ up.notices = []) := by
  simp only [answer]
  decide

/-- AlarmsAreRaisedAndAcknowledged: seven records, a full list whose second record is the oldest CLEARED one, and an
acknowledgement of no record, of one the port need not acknowledge, and of one it must. -/
theorem witness_alarms :
    let seven : State := { live with alarms := ⟨(List.range 7).map (fun i => alarm (i + 1) .cleared), 8⟩ }
    let full : State := { live with alarms := ⟨[alarm 1 .active] ++ alarm 2 .cleared ::
      (List.range 6).map (fun i => alarm (i + 3) .cleared), 9⟩ }
    ((∀ r ∈ seven.alarms.records, r.id ≠ seven.alarms.nextId) ∧ seven.alarms.records.length < 8) ∧
      ((∀ r ∈ full.alarms.records, r.id ≠ full.alarms.nextId) ∧ 8 ≤ full.alarms.records.length ∧
        full.alarms.records = [alarm 1 .active] ++ alarm 2 .cleared ::
          (List.range 6).map (fun i => alarm (i + 3) .cleared) ∧
        (alarm 2 .cleared).state = .cleared ∧ (∀ a ∈ [alarm 1 .active], a.state = .active)) ∧
      TakesAtOnce .sp0 full ∧ (∀ r ∈ full.alarms.records, r.id ≠ (9 : BitVec 16).toNat) ∧
      ((alarm 2 .cleared).id = (2 : BitVec 16).toNat ∧
        (∀ a ∈ [alarm 1 .active] ++ (List.range 6).map (fun i => alarm (i + 3) .cleared),
          a.id ≠ (2 : BitVec 16).toNat) ∧
        (alarm 2 .cleared).needed.get .sp1 = false ∧ (alarm 2 .cleared).needed.get .sp0 = true) := by decide

/-- CheckedFramesKeepTheLinkUp: a repeated sample, an ARRIVED with a wrong number, one outside a move, a good status. -/
theorem witness_checked_frames :
    ({ live.link with lastSeq := some 7 } : CarriageLink).lastSeq = some (worked 7).seq ∧
      live.link.lastMotion ≠ some 5 ∧
      (live.trav.state ≠ .parking ∧ live.trav.state ≠ .positioning ∧ live.trav.state ≠ .scanning) ∧
      (1 : BitVec 8).getLsbD 0 = true ∧ (1 : BitVec 8).getLsbD 1 = false := by decide

/-- SamplesThatGoNoFurther: the first sample and the sample after the wrap of seq, in each state; in DWELLING without a
record and in SCANNING with the shutter closed. -/
theorem witness_samples_stop :
    live.link.lastSeq ≠ some (worked 7).seq ∧ (some (0xFFFF : BitVec 16)) ≠ some (worked 7).seq ∧
      indexFFlag (worked 7) = false ∧ indexDFlag (worked 7) = false ∧
      ((at_ .idle .off).trav.state = .idle ∧ (at_ .parking .off).trav.state = .parking ∧
        (at_ .positioning .off).trav.state = .positioning ∧ (at_ .turnWait .off).trav.state = .turnWait ∧
        (at_ .fault .off).trav.state = .fault) ∧
      ((at_ .dwelling .dwell).trav.state = .dwelling ∧ sourceOk (worked 5) = false) ∧
      ((scanning .fwd between).trav.state = .scanning ∧ (scanning .fwd between).edge.accumulating.isSome = true ∧
        (scanning .fwd between).edge.tracker.isSome = true ∧ shutterOpen (worked 6) = false) := by decide

/-- IndexMarksAreChecked: INDEX_F eight and nine tu away, INDEX_D, both flags nearer to INDEX_F, and a slip in SCANNING.
-/
theorem witness_index_marks :
    let f (pos : BitVec 16) (flags : BitVec 8) : SampleFrame := { worked flags with pos := pos }
    let a := live.setup.active
    live.link.lastSeq ≠ some 7 ∧ a.positionMode = .encoder ∧
      (indexFFlag (f 508 8) = true ∧ indexDFlag (f 508 8) = false ∧ absDiff 508 a.indexF ≤ a.slipTol) ∧
      (indexFFlag (f 509 8) = true ∧ indexDFlag (f 509 8) = false ∧ a.slipTol < absDiff 509 a.indexF) ∧
      (indexFFlag (f 20700 16) = false ∧ indexDFlag (f 20700 16) = true ∧ absDiff 20700 a.indexD ≤ a.slipTol) ∧
      (indexFFlag (f 500 24) = true ∧ indexDFlag (f 500 24) = true ∧ absDiff 500 a.indexF ≤ absDiff 500 a.indexD) ∧
      (let s := scanning .fwd between;
        s.link.lastSeq ≠ some 7 ∧ s.trav.state = .scanning ∧ s.trav.cur = some ⟨1, .fwd, false⟩ ∧
          s.edge.accumulating = some .x ∧ s.edge.tracker.isSome = true ∧ shutterOpen (f 509 8) = false ∧
          s.setup.active.slipTol < absDiff 509 s.setup.active.indexF) ∧
      (let b : Setup := { a with positionMode := .reckoned, indexD := 32767 }
       b.positionMode ≠ .encoder ∧ b.indexF ≤ 32767 ∧ b.indexD ≤ 32767 ∧ indexDFlag (f 0 16) = true ∧
         b.slipTol < absDiff live.trav.pos b.indexD) := by decide

/-- R4, R6: a flagged sample goes on to its bin in SCANNING, to the sums in DWELLING and to its phase in STANDARDIZING,
and a slipped one too. -/
theorem test_flagged_samples_go_on :
    let f (flags : BitVec 8) : SampleFrame := { worked flags with pos := 509 }
    (let t := got (exec (.sample (f 15)) (at_ .dwelling .dwell)); t.trav.dwell.n = 1 ∧ t.tallies.positionSlips.value = 1) ∧
      (let t := got (exec (.sample (f 15)) (standing { flying .air true 3 with nAir := 3 }));
       t.carriageTx = [⟨5, .zero .fine⟩] ∧ t.tallies.positionSlips.value = 1) ∧
      (let s := scanning .fwd ⟨0, none, none, none, none, none⟩
       let t := got (exec (.sample { worked 23 with pos := 20700 })
         { s with setup := { s.setup with active := { s.setup.active with indexD := 20709 } } });
       t.edge.x.slipped = true ∧ t.edge.x.accepted = 0 ∧ t.tallies.samplesRejected.value = 1 ∧
         t.edge.tracker.map Tracker.sheetFirst = some (some 20700)) := by decide

/-- ConversionFollowsTheFormulas: a curve, the flags, the least source span; water by the loaded curve at the least
reference; no water by each cause; contact and no contact. -/
theorem witness_conversion :
    let r := { record with cd := 2000, c0 := 2001 }
    setup.bwCurve = some bwPoints ∧ sourceOk (worked 7) = true ∧ shutterOpen (worked 7) = true ∧ r.cd < r.c0 ∧
      (setup.waterCurve = some waterPoints ∧ 1 ≤ (1 : BitVec 24).toNat % 1048576 ∧ 1 ≤ record.q0) ∧
      (Setup.defaults.waterCurve = none ∧ (0x100000 : BitVec 24).toNat % 1048576 = 0 ∧ { record with q0 := 0 }.q0 = 0) ∧
      caliperContact (worked 7) = true ∧ caliperContact (worked 3) = false := by decide

/-- LookupsStayBetweenThePoints: the last segment, the last point, and the curve's fall and rise. -/
theorem witness_lookups :
    (31 + 1 < bwPoints.length ∧ 2047 < 2048 ∧ bwPoints.getD 32 0 ≤ bwPoints.getD 31 0) ∧
      (15 + 1 < Setup.defaults.shrinkCurve.length ∧
        Setup.defaults.shrinkCurve.getD 15 0 ≤ Setup.defaults.shrinkCurve.getD 16 0) ∧ bwPoints.length = 32 + 1 ∧
    65535 / 2048 + 1 < bwPoints.length ∧ 32 < bwPoints.length ∧ 65535 ≤ 65536 ∧ 65536 / 2048 < bwPoints.length ∧
      bwPoints.Pairwise (· ≥ ·) ∧ Setup.defaults.shrinkCurve.Pairwise (· ≤ ·) ∧
      32768 / 2048 < Setup.defaults.shrinkCurve.length := by decide

/-- SheetSamplesEnterTheirBin: the worked sample at bin 87. From the leading edge on with the fill pointer at 88, the
furthest it may lie ahead, and at 89; before the leading edge in its first SHEET sample, in one more and in the one that
finds the edge; a bin with a quantity saturated and not; a sample without caliper contact; positions off the grid. -/
theorem witness_sheet_sample :
    let k := { between with fill := some 88 }
    let s := scanning .fwd k
    let set := s.edge.get .x
    let search (n : Nat) : Tracker := ⟨n, if n = 0 then none else some 9250, none, none, none, none⟩
    (s.trav.state = .scanning ∧ s.edge.accumulating = some .x ∧ s.edge.tracker = some k ∧ k.leading.isSome = true ∧
      k.air = none ∧ s.link.lastSeq ≠ some 7 ∧ indexFFlag (worked 7) = false ∧ indexDFlag (worked 7) = false) ∧
      convert s.std.current s.setup.active (worked 7) (placed (worked 7) s).trav.pos =
        some ⟨9310, 26214, 8560, some (774, 7786), some 1030⟩ ∧
      convert s.std.current { s.setup.active with waterCurve := none } (worked 3) (placed (worked 3) s).trav.pos =
        some ⟨9310, 26214, 8560, none, none⟩ ∧
      (26214 < set.snap.airThreshold ∧ 87 < set.snap.binCount ∧ set.bins[87]? = some ⟨0, 0, 0, 0, 0, 0, 0⟩ ∧
        set.snap.binOrigin + 87 * set.snap.binWidth ≤ 9310 ∧ 9310 < set.snap.binOrigin + (87 + 1) * set.snap.binWidth) ∧
      (set.dir = .fwd ∧ ¬ 87 + 1 < 88 ∧ 87 + 1 < 89 ∧ (gathering .rev).dir = .rev ∧ ¬ 86 + 1 < 87 ∧ 85 + 1 < 87) ∧
      (0 < 4095 ∧ ¬ 4095 < 4095 ∧ set.accepted ≠ BitVec.allOnes 32) ∧
      ((search 0).leading = none ∧ (search 0).air = none ∧ 0 + 1 < set.snap.edgeRun ∧ 2 + 1 < set.snap.edgeRun ∧
        set.snap.edgeRun ≤ 3 + 1 ∧ (search 3).sheetFirst = some 9250) ∧
      (599 < set.snap.binOrigin ∧ set.snap.binOrigin + set.snap.binCount * set.snap.binWidth ≤ 20600) := by
  decide +kernel

/-- R61, R71, R72: the fourth SHEET sample of the search finds the leading edge at the first one's position and still
goes to its bin, whose basis weight is saturated. -/
theorem test_sample_finds_the_edge :
    let s := scanning .fwd ⟨3, some 9250, none, none, none, none⟩
    let full : Bin := ⟨4095, 7, 0, 0, 0, 0, 0⟩
    let t := got (exec (.sample (worked 7))
      { s with edge := { s.edge with x := { s.edge.x with bins := s.edge.x.bins.set 87 full } } })
    t.edge.tracker = some ⟨0, none, some 9250, some 9310, none, some 87⟩ ∧
      t.edge.x.bins[87]? = some ⟨4095, 7, 1, 774, 7786, 1, 1030⟩ ∧ t.tallies.binSaturations.value = 1 := by decide

/-- HolesAreCountedAndAlarmed: off the grid's front by one, on the grid at bin 87, a run of HOLE_MIN that did not reach,
one short, and one that reached; a position just past the grid's end; the fill pointer at and past its furthest. -/
theorem witness_holes :
    let f : SampleFrame := { worked 7 with pos := 599 }
    let k (n : Nat) (reach : Bool) := { between with air := some ⟨5200, n, true, reach, reach⟩ }
    let s (n : Nat) (reach : Bool) := scanning .fwd (k n reach)
    let set := (s 2 false).edge.get .x
    ((s 2 false).trav.state = .scanning ∧ (s 2 false).edge.accumulating = some .x ∧
      (s 2 false).edge.tracker = some (k 2 false) ∧ (k 2 false).leading.isSome = true ∧
      (k 2 false).air = some ⟨5200, 2, true, false, false⟩ ∧ (s 2 false).link.lastSeq ≠ some 7 ∧
      indexFFlag f = false ∧ indexDFlag f = false ∧
      convert (s 2 false).std.current (s 2 false).setup.active f (placed f (s 2 false)).trav.pos =
        some ⟨599, 26214, 8560, some (774, 7786), some 1030⟩ ∧
      26214 < set.snap.airThreshold ∧ 599 < set.snap.binOrigin ∧ set.snap.holeMin ≤ 2) ∧
      1 < set.snap.holeMin ∧ (k 2 true).air = some ⟨5200, 2, true, true, true⟩ ∧
      snap.binOrigin + snap.binCount * snap.binWidth ≤ 20600 ∧
      (convert (s 2 false).std.current (s 2 false).setup.active (worked 7) (placed (worked 7) (s 2 false)).trav.pos =
          some ⟨9310, 26214, 8560, some (774, 7786), some 1030⟩ ∧
        87 < set.snap.binCount ∧ set.bins[87]? = some ⟨0, 0, 0, 0, 0, 0, 0⟩ ∧
        set.snap.binOrigin + 87 * set.snap.binWidth ≤ 9310 ∧ 9310 < set.snap.binOrigin + (87 + 1) * set.snap.binWidth ∧
        (k 2 false).fill = some 86 ∧ ¬ 87 + 1 < 86 ∧ 87 + 1 < 89 ∧ set.accepted ≠ BitVec.allOnes 32) := by decide +kernel

/-- R62, R71: a hole that a sample on the grid ends is counted once, and that sample enters bin 87. -/
theorem test_hole_on_the_grid :
    let t := got (exec (.sample (worked 7)) (scanning .fwd { between with air := some ⟨9250, 3, true, false, false⟩ }))
    t.tallies.holes.value = 1 ∧ t.edge.x.bins[87]? = some ⟨1, 8560, 1, 774, 7786, 1, 1030⟩ ∧
      t.edge.tracker = some ⟨0, none, some 1010, some 9310, none, some 87⟩ := by decide

/-- A state whose armed set is the one entry. -/
def armedWith (e : Armed) (s : State) : State := { s with setup := { s.setup with armed := [e] } }

/-- An entry that the next scan start and the end of any scan apply. -/
def waits : Armed := ⟨.edgeRun, .scalar 5, .next, .sp0⟩

/-- AirRunsInTheSpanDeclareABreak: before the leading edge; the first AIR sample of a run, within the margin of the
mapping edges exactly and one tu outside; one short of BREAK_SPAN; and the one that brings the run from 8910 to it
exactly, from SHEET_ON and from RECOVERY, with an entry armed for the scan end. -/
theorem witness_air_run :
    let f : SampleFrame := { worked 7 with bwCount := 402000 }
    let run : AirRun := ⟨8910, 40, true, false, false⟩
    let k := { between with air := some run }
    let s (b : BreakState) : State :=
      let u := armedWith waits (inBreak b (scanning .fwd k))
      { u with edge := { u.edge with mapping := some ⟨9210, 20000⟩ } }
    let u := s .sheetOn
    let sn := (u.edge.get .x).snap
    (u.trav.state = .scanning ∧ u.trav.cur = some ⟨1, .fwd, false⟩ ∧ u.edge.accumulating = some .x ∧
      u.edge.tracker = some k ∧ u.link.lastSeq ≠ some 7 ∧ indexFFlag f = false ∧ indexDFlag f = false ∧
      (convert u.std.current u.setup.active f (placed f u).trav.pos).map (fun c => (c.pos, c.t)) =
        some (9310, 65536) ∧
      sn.airThreshold ≤ 65536) ∧
      (⟨3, some 5000, none, none, none, none⟩ : Tracker).leading = none ∧
      (between.leading.isSome = true ∧ between.air = none ∧ u.edge.mapping = some ⟨9210, 20000⟩ ∧
        9210 + sn.edgeMargin ≤ 9310 ∧ 9310 + sn.edgeMargin ≤ 20000 ∧ ¬ 9211 + sn.edgeMargin ≤ 9310) ∧
      (k.leading.isSome = true ∧ k.air = some run ∧ run.inSpan = true ∧ run.reach = false ∧
        ¬ sn.breakSpan ≤ absDiff 9310 8911) ∧
      (sn.breakSpan ≤ absDiff 9310 8910 ∧ NoLineEnable u ∧ u.mon.state = .sheetOn ∧ (s .recovery).mon.state = .recovery ∧
        (s .unproven).mon.state = .unproven) ∧
      (got (exec (.sample f) u)).mon.state = .brk ∧ (got (exec (.sample f) (s .recovery))).setup.armed = [] ∧
      (got (exec (.sample f) u)).carriageTx = [⟨5, .park⟩] := by decide

/-- DwellSamplesAreAveraged: SHEET samples before and at DWELL_PERIOD, and AIR samples one short of DWELL_BREAK_SAMPLES
and at it, in each break state. -/
theorem witness_dwell :
    let s := at_ .dwelling .dwell
    let air : SampleFrame := { worked 7 with bwCount := 402000 }
    (s.trav.state = .dwelling ∧ s.link.lastSeq ≠ some 7 ∧ indexFFlag (worked 7) = false ∧ indexDFlag (worked 7) = false ∧
      convert s.std.current s.setup.active (worked 7) (placed (worked 7) s).trav.pos =
        some ⟨9310, 26214, 8560, some (774, 7786), some 1030⟩ ∧
      26214 < s.setup.active.airThreshold ∧ 510 + 1 < s.setup.active.dwellPeriod ∧ s.setup.active.dwellPeriod ≤ 511 + 1) ∧
      ((convert s.std.current s.setup.active air (placed air s).trav.pos).map Converted.t = some 65536 ∧
        s.setup.active.airThreshold ≤ 65536 ∧ 62 + 1 < s.setup.active.dwellBreakSamples ∧
        s.setup.active.dwellBreakSamples ≤ 63 + 1) ∧
      ((inBreak .brk s).mon.state = .brk ∧ (inBreak .threading s).mon.state = .threading ∧ s.mon.state = .unproven ∧
        (inBreak .sheetOn s).mon.state = .sheetOn ∧ (inBreak .recovery s).mon.state = .recovery) := by decide +kernel

/-- R21, R117: the AIR sample that reaches DWELL_BREAK_SAMPLES breaks with cause DWELL_AIR at the dwell position and
parks. -/
theorem test_dwell_air :
    let s := inBreak .sheetOn (at_ .dwelling .dwell)
    let t := got (exec (.sample { worked 7 with bwCount := 402000 })
      { s with trav := { s.trav with dwellPos := 9310, dwell := ⟨1, 2, 3, 4, 5, 6, 7, 63⟩ } })
    t.trav.state = .parking ∧ t.trav.dwell = ⟨0, 0, 0, 0, 0, 0, 0, 0⟩ ∧ t.mon.state = .brk ∧
      t.alarms.records.map (fun r => (r.cause, r.pos)) = [(some .dwellAir, some 9310)] := by decide

/-- DarkPhaseCountsItsSamples: DARK and AIR settling with the shutter wrong, settling with it right, counting, and at
the last sample; ZERO_F and ZERO_C short of their ends, and ZERO_F ended by its count and by STD_SAMPLES, with a sample
of either range. -/
theorem witness_dark :
    let x (ph : Phase) (counting : Bool) (n taken : Nat) :=
      { flying ph counting taken with nDark := n, nAir := n, nFine := n, nCoarse := n, samples := 16 }
    let s := standing (x .dark true 2 3)
    let open_ := worked 7
    let shut := worked 6
    (s.trav.state = .standardizing ∧ s.std.flight = some (x .dark true 2 3) ∧ s.link.lastSeq ≠ some 7 ∧
      indexFFlag open_ = false ∧ indexDFlag open_ = false ∧
      shutterOpen open_ = true ∧ shutterOpen shut = false) ∧
      (∀ ph ∈ [Phase.dark, .air],
        ((x ph false 0 3).phase = ph ∧ (x ph false 0 3).counting = false ∧ (x ph false 0 3).nDark < 16 ∧
          (x ph false 0 3).nAir < 16) ∧
        ((x ph true 14 3).counting = true ∧ 14 + 1 < (x ph true 14 3).samples) ∧
        (x ph true 15 3).samples ≤ 15 + 1) ∧
      ((x .zeroF true 2 3).phase = .zeroF ∧ 2 + 1 < (x .zeroF true 2 3).samples / 4 ∧ 3 + 1 < (x .zeroF true 2 3).samples ∧
        (x .zeroF true 3 3).samples / 4 ≤ 3 + 1 ∧ (x .zeroF true 2 15).samples ≤ 15 + 1) ∧
      ((x .zeroC true 2 3).phase = .zeroC ∧ 2 + 1 < (x .zeroC true 2 3).samples / 4 ∧ 3 + 1 < (x .zeroC true 2 3).samples) ∧
      ((worked 7).flags.getLsbD 5 = false ∧ (worked 0x27).flags.getLsbD 5 = true) := by decide

/-- R29: the last counted AIR sample begins ZERO_F with ZERO(FINE). -/
theorem test_air_ends :
    let t := got (exec (.sample (worked 7)) (standing { flying .air true 3 with nAir := 3 }))
    t.carriageTx = [⟨5, .zero .fine⟩] ∧
      t.std.flight.map (fun x => (x.phase, x.counting, x.taken, x.nAir)) = some (.zeroF, false, 0, 4) := by decide

/-- RecordsFollowTheChecks: each premise, and each result. -/
theorem witness_records :
    let x := flying .zeroC true 4
    let of (y : StdFlight) := (makeRecord y (some record) 2 0).result
    (1 ≤ x.nDark ∧ 1 ≤ x.nAir) ∧ 1 ≤ x.nFine ∧ x.nCoarse = 0 ∧ 1 ≤ { x with nCoarse := 1 }.nCoarse ∧
      { x with nFine := 0 }.nFine = 0 ∧ (makeRecord x none 2 0).a0 = 380000 ∧
      (makeRecord { x with sAirAbs := 0 } none 2 0).a0 = 0 ∧ of x = .pass ∧
      of { x with shutterError := true } = .failShutter ∧ of { x with sAirBw := 4 * 3023 } = .failSource ∧
      of { x with sAirAbs := 0 } = .failIr ∧ of { x with sAirBw := 4 * 410442 } = .drift ∧
      of { x with sAirBw := 4 * 300000 } = .failDrift := by decide

/-- The last sample of ZERO_C ends this standardization with a result. -/
def ending (x : StdFlight) (fails : Nat) : State :=
  let s := standing x
  { s with trav := { s.trav with failCount := fails } }

/-- ResultsMoveTheFrame: a PASS, a DRIFT, a second failure with a current record, one without, and the third; ended by
the count of samples taken and by the COARSE count. -/
theorem witness_results :
    let good := flying .zeroC true 3
    let bad := { good with shutterError := true }
    let drifts := { good with sAirBw := 4 * 410442 }
    let bare (s : State) : State := { s with std := { s.std with current := none } }
    ((ending good 0).trav.state = .standardizing ∧ (ending good 0).std.flight = some good ∧ good.phase = .zeroC ∧
      good.samples ≤ good.taken + 1 ∧ (ending good 0).link.lastSeq ≠ some 7 ∧ indexFFlag (worked 7) = false ∧
      indexDFlag (worked 7) = false ∧
      (makeRecord (good.take (worked 7)) (ending good 0).std.current 2 0).result = .pass) ∧
      { good with samples := 16 }.samples / 4 ≤ 3 + (if (worked 0x27).flags.getLsbD 5 then 1 else 0) ∧
      (makeRecord (drifts.take (worked 7)) (ending drifts 0).std.current 2 0).result = .drift ∧
      ((makeRecord (bad.take (worked 7)) (ending bad 1).std.current 2 0).result = .failShutter ∧
        (ending bad 1).std.current.isSome = true ∧ (ending bad 1).trav.failCount < 2) ∧
      ((makeRecord (bad.take (worked 7)) none 2 0).result = .failShutter ∧ (bare (ending bad 1)).std.current = none ∧
        (got (exec (.sample (worked 7)) (bare (ending bad 1)))).carriageTx = [⟨5, .stop⟩, ⟨6, .dark⟩]) ∧
      (ending bad 2).trav.failCount = 2 ∧ (got (exec (.sample (worked 7)) (ending bad 2))).trav.state = .fault := by
  decide

/-- R13, R32, R39: after a DRIFT the head is sent to the dwell position, clamped, behind the STOP, and the notices are
ALARM, STD_DONE and TRAVERSE_STATE; during a break a failure leaves it in IDLE with the count in STD_DONE. -/
theorem test_results_move_the_head :
    let told (s : State) : State := withPort { up with subs := 1023 } s
    let drifts := { flying .zeroC true 3 with sAirBw := 4 * 410442 }
    let s : State := told (ending drifts 0)
    let t := got (exec (.sample (worked 7)) { s with trav := { s.trav with intent := .dwell, dwellPos := 1 } })
    let fails := { flying .zeroC true 3 with shutterError := true }
    let u := got (exec (.sample (worked 7)) (told (inBreak .brk (ending fails 1))))
    (t.carriageTx = [⟨5, .stop⟩, ⟨6, .move 400⟩] ∧ t.trav.target = some .dwellPos ∧ t.trav.dwellPos = 400 ∧
      t.trav.moveTimer = some t.setup.active.moveTimeout ∧ t.link.lastMotion = some 6 ∧
      t.ports.sp0.notices.map Notice.code = [4, 5, 9]) ∧
      u.carriageTx = [⟨5, .stop⟩] ∧ u.trav.state = .idle ∧ u.link.lastMotion = some 4 ∧
      u.ports.sp0.notices.map Notice.code = [4, 5, 9] ∧
      (u.ports.sp0.notices.map fun n => match n with
        | .stdDone r stale count => some (r.result, stale, count)
        | _ => none) = [none, some (.failShutter, true, 2), none] := by decide

/-- ArrivalAtPark: standardization by the flag during a break, and by the intent; SCAN; DWELL; intent OFF; a break. -/
theorem witness_arrival_at_park :
    let s (i : Intent) (due flag : Bool) (b : BreakState) : State :=
      let u := inBreak b (at_ .parking i)
      { u with trav := { u.trav with stdDue := due, stdAtPark := flag } }
    live.link.lastMotion = some 4 ∧ (s .off true true .brk).trav.state = .parking ∧
      ((s .off true true .brk).trav.stdDue = true ∧ (s .off true true .brk).trav.stdAtPark = true) ∧
      ((s .scan true false .recovery).trav.stdDue = true ∧ (s .scan true false .recovery).trav.intent ≠ .off ∧
        (s .scan true false .recovery).mon.state ≠ .brk ∧ (s .scan true false .recovery).mon.state ≠ .threading) ∧
      ((s .scan false true .unproven).trav.stdDue = false ∧ (s .scan false true .unproven).trav.intent = .scan ∧
        (s .scan false true .unproven).mon.state ≠ .brk ∧ (s .scan false true .unproven).mon.state ≠ .threading) ∧
      ((s .dwell false false .sheetOn).trav.stdDue = false ∧ (s .dwell false false .sheetOn).trav.intent = .dwell ∧
        (s .dwell false false .sheetOn).mon.state ≠ .brk ∧ (s .dwell false false .sheetOn).mon.state ≠ .threading) ∧
      ((s .off true false .sheetOn).trav.stdAtPark = false ∧ (s .off true false .sheetOn).trav.intent = .off) ∧
      ((s .scan true false .threading).trav.stdAtPark = false ∧ (s .scan true false .threading).mon.state = .threading) := by
  decide

/-- StandardizationStartsWithDark: no group, a group for the scan in progress, a group for NEXT, a group for a scan that
has ended. -/
theorem witness_standardization :
    let group (s : State) := s.setup.armed.filter (fun e => decide (e.item.cls = .atStandardize))
    let past_ (s : State) (n : BitVec 32) : Prop :=
      n.toNat < s.trav.scanNumber ∨ (n.toNat = s.trav.scanNumber ∧ s.trav.cur = none)
    let busy := armedWith ⟨.turnF, .scalar 300, .scan 1, .sp0⟩ (scanning .fwd between)
    let next := armedWith ⟨.turnF, .scalar 300, .next, .sp0⟩ live
    let past := armedWith ⟨.turnF, .scalar 300, .scan 0, .sp0⟩ live
    group live = [] ∧ (group busy = busy.setup.armed ∧ ¬ past_ busy 1) ∧ group next = next.setup.armed ∧
      (group past = past.setup.armed ∧ past_ past 0) := by decide

/-- POSITIONING with intent SCAN, toward a turn point, after a scan number, with set X in a state. -/
def coming (m : MoveTarget) (n : Nat) (x y : SetState) : State :=
  let s := at_ .positioning .scan
  { s with trav := { s.trav with target := some m, scanNumber := n }
           edge := { s.edge with x := { AccSet.free with state := x }, y := { AccSet.free with state := y } } }

/-- ArrivalAtATurnPointStartsAScan: at each turn point, with the dwell position at one of them and between them; set X
free, set Y free, both occupied; the last scan number but one and the last; an armed entry for the scan start; intent
DWELL at the dwell position and at a turn point. -/
theorem witness_scan_start :
    let s := armedWith waits (coming .turnF 4294967294 .free .free)
    let dwells (at_ : Nat) (i : Intent) (m : MoveTarget) : State :=
      { s with trav := { s.trav with dwellPos := at_, intent := i, target := some m, pos := 10600 } }
    let a := s.setup.active
    (s.link.lastMotion = some 4 ∧ s.trav.state = .positioning ∧ s.trav.intent = .scan ∧ s.trav.target = some .turnF ∧
      s.setup.armed.filter (scanStartPicks s) = [waits] ∧ s.edge.x.state = .free ∧ s.trav.scanNumber < 4294967295) ∧
      ((coming .turnD 0 .finalizing .free).edge.x.state ≠ .free ∧ (coming .turnD 0 .finalizing .free).edge.y.state = .free ∧
        (coming .turnD 0 .finalizing .free).trav.target = some .turnD ∧ a.turnD ≠ a.turnF) ∧
      ((coming .turnD 0 .finalizing .waiting).edge.x.state ≠ .free ∧
        (coming .turnD 0 .finalizing .waiting).edge.y.state ≠ .free) ∧
      (coming .turnF 4294967295 .free .free).trav.scanNumber = 4294967295 ∧
      ((dwells a.turnF .scan .dwellPos).trav.dwellPos = a.turnF ∧ (dwells a.turnD .scan .dwellPos).trav.dwellPos = a.turnD ∧
        (dwells 9310 .scan .dwellPos).trav.dwellPos ≠ a.turnF ∧ (dwells 9310 .scan .dwellPos).trav.dwellPos ≠ a.turnD ∧
        absDiff 10600 a.turnF ≤ absDiff 10600 a.turnD ∧ absDiff 10601 a.turnD < absDiff 10601 a.turnF) ∧
      ((dwells 9310 .dwell .dwellPos).trav.intent = .dwell ∧ a.turnF ≠ (dwells 9310 .dwell .turnF).trav.dwellPos ∧
        a.turnD = (dwells a.turnD .dwell .turnD).trav.dwellPos) := by decide

/-- R14: intent DWELL at the dwell position enters DWELLING; intent SCAN there moves on to the nearer turn point. -/
theorem test_arrived_to_dwell :
    let s := coming .dwellPos 0 .free .free
    let u (i : Intent) : State := { s with trav := { s.trav with dwellPos := 9310, intent := i } }
    (got (exec (.arrived 4 9310) (u .dwell))).trav.state = .dwelling ∧
      (got (exec (.arrived 4 9310) (u .scan))).carriageTx = [⟨5, .move 400⟩] := by decide

/-- R151, R155: a scan start applies an AT_SCAN_END entry before it takes the snapshot. -/
theorem test_scan_start_applies :
    let t := got (exec (.arrived 4 400) (armedWith waits (coming .turnF 7 .free .free)))
    t.edge.x.snap.edgeRun = 5 ∧ t.setup.armed = [] ∧ t.setup.generation = 1 := by decide

/-- ScanEndsComplete: a FWD and a REV scan end in UNPROVEN, SHEET_ON and RECOVERY, the set slipped or not; mapping edges
invalid, within EDGE_TOL, and a jump that is held and one that is adopted; standardization due, becoming due by each
cause, or not; an entry armed for the scan end; the other set free or FINALIZING. -/
theorem witness_scan_complete :
    let s := armedWith waits (inBreak .sheetOn (scanning .rev between))
    let set := s.edge.get .x
    (s.link.lastMotion = some 4 ∧ s.trav.state = .scanning ∧ s.trav.cur = some ⟨1, .rev, false⟩ ∧
      s.edge.accumulating = some .x ∧ s.edge.tracker = some between ∧ between.leading = some 1010 ∧
      between.trailing = some 9250 ∧ NoLineEnable s ∧ s.mon.state = .sheetOn ∧ s.trav.scanNumber < 4294967295) ∧
      (set.slipped = false ∧ s.edge.mapping = none ∧ { gathering .rev with slipped := true }.slipped = true) ∧
      (absDiff 1010 1070 ≤ set.snap.edgeTol ∧ set.snap.edgeTol < absDiff 1010 1071 ∧ absDiff 9250 9250 ≤ set.snap.edgeTol ∧
        1 + 1 < set.snap.edgeAccept ∧ set.snap.edgeAccept ≤ 2 + 1) ∧
      ({ s.trav with stdDue := true }.stdDue = true ∧ s.trav.stdDue = false ∧
        s.setup.active.stdInterval ≤ min (19 + 1) 255 ∧ ¬ s.setup.active.stdInterval ≤ min (18 + 1) 255 ∧
        groupFallsDue 1 [⟨.turnF, .scalar 300, .scan 1, .sp0⟩] = true ∧ groupFallsDue 1 s.setup.armed = false) ∧
      ((inBreak .unproven s).mon.state = .unproven ∧ (inBreak .recovery s).mon.state = .recovery) ∧
      (scanning .fwd between).trav.cur = some ⟨1, .fwd, false⟩ ∧ s.edge.y.state = .free ∧
      { s.edge with y := { AccSet.free with state := .finalizing } }.y.state ≠ .free := by decide

/-- R124, R125: a COMPLETE scan end proves the sheet from UNPROVEN and counts in RECOVERY, and the next set knows it. -/
theorem test_scan_end_is_reported :
    let t := got (exec (.arrived 4 20800) (inBreak .unproven (scanning .fwd between)))
    let u := got (exec (.arrived 4 20800) (inBreak .recovery (scanning .fwd between)))
    t.mon.state = .sheetOn ∧ t.edge.y.recovery = false ∧ u.mon.recovery = 1 ∧ u.edge.y.recovery = true := by decide

/-- R68: the third jump in a row is adopted; the second, further off at its back edge, is held and alarmed there. -/
theorem test_edge_jumps :
    let s (n : Nat) : State :=
      let u := inBreak .sheetOn (scanning .fwd between)
      { u with edge := { u.edge with mapping := some ⟨1071, 9400⟩, jumps := n } }
    let t := got (exec (.arrived 4 20800) (s 1))
    (t.edge.mapping = some ⟨1071, 9400⟩ ∧ t.edge.jumps = 2 ∧ t.alarms.nextId = 2 ∧ t.tallies.edgeJumps.value = 1) ∧
      (got (exec (.arrived 4 20800) (s 2))).edge.mapping = some ⟨1010, 9250⟩ := by decide

/-- ScanEndsWithoutSheet: a scan end with no leading edge, with an entry armed for it, in each break state. -/
theorem witness_no_sheet :
    let k : Tracker := ⟨3, some 5000, none, none, none, none⟩
    let s := armedWith waits (scanning .fwd k)
    s.link.lastMotion = some 4 ∧ s.trav.state = .scanning ∧ s.trav.cur = some ⟨1, .fwd, false⟩ ∧
      s.edge.accumulating = some .x ∧ s.edge.tracker = some k ∧ k.leading = none ∧ NoLineEnable s ∧
      s.mon.state = .unproven ∧ (inBreak .sheetOn s).mon.state = .sheetOn ∧ (inBreak .recovery s).mon.state = .recovery := by
  decide

/-- HeadFaultsStopTheFrame: present clear, fault set, in SCANNING and in FAULT; a running move timer; silence in IDLE,
in FAULT and in SCANNING; an entry armed for the scan end. -/
theorem witness_head_faults :
    let s := armedWith waits (scanning .fwd between)
    NoLineEnable s ∧ (0 : BitVec 8).getLsbD 0 = false ∧ (3 : BitVec 8).getLsbD 1 = true ∧ s.trav.state ≠ .fault ∧
      (at_ .fault .scan).trav.state = .fault ∧ s.trav.moveTimer.isSome = true ∧ s.trav.state ≠ .idle ∧
      s.link.silence.isSome = true ∧ (at_ .idle .scan).trav.state = .idle ∧ (at_ .idle .scan).link.silence.isSome = true ∧
      (at_ .fault .scan).link.silence.isSome = true ∧ s.trav.cur.isSome = true ∧ s.edge.accumulating = some .x ∧
      (at_ .parking .scan).trav.cur = none := by decide

/-- A state with the two machine lines as given. -/
def lines (brk tail : LineState) (s : State) : State := { s with mon := { s.mon with brk := brk, tail := tail } }

/-- A line at rest. -/
def quiet : LineState := ⟨false, false, none⟩

/-- LineLevelsAreDebounced: a disabled line, a line returning to its debounced state, a line leaving it, and one leaving
it with LINE_DEBOUNCE 0. -/
theorem witness_line_levels :
    let s := lines ⟨true, false, some 50⟩ quiet live
    let off : Setup := { setup with breakLineEnable := false }
    (s.mon.brk.level ≠ false ∧ off.breakLineEnable = false) ∧
      (s.setup.active.breakLineEnable = true ∧ false = s.mon.brk.debounced) ∧
      (s.mon.tail.level ≠ true ∧ s.setup.active.tailLineEnable = true ∧ true ≠ s.mon.tail.debounced ∧
        s.setup.active.lineDebounce ≠ 0) ∧
      { s.setup.active with lineDebounce := 0 }.lineDebounce = 0 := by decide

/-- R115: with LINE_DEBOUNCE 0 the level change declares the break itself. -/
theorem test_break_line_at_once :
    let s := inBreak .sheetOn (at_ .idle .off)
    let t := got (exec (.lineLevelChange .brk true)
      { s with setup := { s.setup with active := { s.setup.active with lineDebounce := 0 } } })
    t.mon.brk = ⟨true, true, none⟩ ∧ t.mon.state = .brk ∧ t.tallies.breaks.value = 1 := by decide

/-- R17, R22, R117: a break in SCANNING parks the head behind ALARM, BREAK_STATE, SCAN_END and SETUP_APPLIED; in
TURN_WAIT it parks it too; in IDLE it sends no command. -/
theorem test_break_notices :
    let s (u : State) : State :=
      withPort { up with subs := 1023 } (inBreak .sheetOn (lines ⟨true, false, some 50⟩ quiet u))
    let t (u : State) := got (exec (.lineDebounceExpiry .brk) (s u))
    ((t (armedWith waits (scanning .fwd between))).ports.sp0.notices.map Notice.code = [4, 3, 1, 6, 9] ∧
      (t (scanning .fwd between)).carriageTx = [⟨5, .park⟩]) ∧
      ((t (at_ .turnWait .scan)).ports.sp0.notices.map Notice.code = [4, 3, 9] ∧
        (t (at_ .turnWait .scan)).carriageTx = [⟨5, .park⟩]) ∧
      (t (at_ .idle .scan)).ports.sp0.notices.map Notice.code = [4, 3] ∧ (t (at_ .idle .scan)).carriageTx = [] := by
  decide

/-- BreakLineDeclaresABreak: each break state, in SCANNING with an entry armed for the scan end, and in each other
traverse state. -/
theorem witness_break_line :
    let s (b : BreakState) := armedWith waits (inBreak b (lines ⟨true, false, some 50⟩ quiet (scanning .fwd between)))
    (s .sheetOn).mon.brk.timer.isSome = true ∧ (s .sheetOn).mon.brk.level = true ∧
      (s .sheetOn).mon.brk.debounced = false ∧ NoLineEnable (s .sheetOn) ∧ (s .sheetOn).trav.state = .scanning ∧
      (s .sheetOn).trav.cur.isSome = true ∧ (s .unproven).mon.state = .unproven ∧ (s .sheetOn).mon.state = .sheetOn ∧
      (s .recovery).mon.state = .recovery ∧ (s .brk).mon.state = .brk ∧ (s .threading).mon.state = .threading ∧
      (∀ st ∈ [TravState.turnWait, .positioning, .dwelling, .idle, .parking, .standardizing, .fault],
        (at_ st .dwell).trav.state = st ∧ st ≠ .scanning ∧ (at_ st .dwell).trav.cur = none) := by decide

/-- ThreadingAndResumeLeadToRecovery: the edges that change the debounced state alone: a rise of the tail line outside
BREAK, its fall outside THREADING, and a fall of the break line outside THREADING. -/
theorem witness_edges_without_effect :
    let rising : LineState := ⟨true, false, some 50⟩
    let falling : LineState := ⟨false, true, some 50⟩
    let s (b : BreakState) (l m : LineState) := inBreak b (lines l m (at_ .idle .off))
    (∀ b ∈ [BreakState.unproven, .sheetOn, .threading, .recovery],
      let u := s b quiet rising;
      u.mon.tail.timer.isSome = true ∧ u.mon.tail.level ≠ u.mon.tail.debounced ∧ u.mon.tail.level = true ∧
        u.mon.state ≠ .brk ∧ (got (exec (.lineDebounceExpiry .tail) u)).mon.state = b) ∧
      (∀ b ∈ [BreakState.unproven, .sheetOn, .brk, .recovery],
        (let u := s b quiet falling;
          u.mon.tail.timer.isSome = true ∧ u.mon.tail.level ≠ u.mon.tail.debounced ∧ u.mon.tail.level = false ∧
            u.mon.state ≠ .threading ∧ (got (exec (.lineDebounceExpiry .tail) u)).mon.state = b) ∧
        (let u := s b falling quiet;
          u.mon.brk.timer.isSome = true ∧ u.mon.brk.level = false ∧ u.mon.brk.debounced = true ∧
            u.mon.state ≠ .threading ∧ (got (exec (.lineDebounceExpiry .brk) u)).mon.state = b)) := by decide

/-- ThreadingAndResumeLeadToRecovery: the tail's assertion in BREAK; each line's fall in THREADING with the other line
DEASSERTED and ASSERTED; RESUME SHEET in each break state, with the break line ASSERTED and not; IDLE with each intent,
away from park and at it, with a standardization accepted in the break and without. -/
theorem witness_recovery :
    let held : LineState := ⟨true, true, none⟩
    let rising : LineState := ⟨true, false, some 50⟩
    let falling : LineState := ⟨false, true, some 50⟩
    let s (b : BreakState) (l m : LineState) := inBreak b (lines l m (at_ .idle .off))
    let asserted (u : State) : Bool := u.setup.active.breakLineEnable && u.mon.brk.debounced
    let assertedT (u : State) : Bool := u.setup.active.tailLineEnable && u.mon.tail.debounced
    ((s .brk held rising).mon.tail.timer.isSome = true ∧ (s .brk held rising).mon.tail.level = true ∧
      (s .brk held rising).mon.tail.debounced = false ∧ (s .brk held rising).mon.state = .brk) ∧
    ((s .threading quiet falling).mon.tail.timer.isSome = true ∧ (s .threading quiet falling).mon.tail.level = false ∧
      (s .threading quiet falling).mon.tail.debounced = true ∧ (s .threading quiet falling).mon.state = .threading ∧
      asserted (s .threading quiet falling) = false ∧ (s .threading quiet falling).trav.intent = .off) ∧
    asserted (s .threading held falling) = true ∧
    ((s .threading falling quiet).mon.brk.timer.isSome = true ∧ (s .threading falling quiet).mon.brk.level = false ∧
      (s .threading falling quiet).mon.brk.debounced = true ∧ assertedT (s .threading falling quiet) = false) ∧
    assertedT (s .threading falling held) = true ∧
    (TakesAtOnce .sp0 (s .sheetOn quiet quiet) ∧ (s .sheetOn quiet quiet).mon.state = .sheetOn ∧
      (s .unproven quiet quiet).mon.state = .unproven ∧ (s .recovery quiet quiet).mon.state = .recovery) ∧
    ((s .brk held quiet).mon.state = .brk ∧ asserted (s .brk held quiet) = true) ∧
    (asserted (s .threading quiet quiet) = false ∧ (s .threading quiet quiet).trav.intent = .off) ∧
    (let u := inBreak .brk (at_ .idle .scan);
      asserted u = false ∧ u.trav.state = .idle ∧ u.trav.intent ≠ .off ∧ u.trav.atPark = false) ∧
    (let u (i : Intent) (due kept : Bool) : State :=
      let v := inBreak .brk (at_ .idle i)
      { v with trav := { v.trav with atPark := true, stdDue := due }, mon := { v.mon with stdInBreak := kept } };
      ((u .scan false false).trav.atPark = true ∧ (u .scan false false).mon.stdInBreak = false) ∧
        ((u .scan false true).trav.intent = .scan ∧ (u .scan false true).trav.stdDue = false ∧
          (u .scan false true).mon.stdInBreak = true) ∧
        ((u .dwell false true).trav.intent ≠ .scan ∧ (u .dwell true true).trav.stdDue = true)) := by decide

/-- R22: RESUME SHEET starts the frame from IDLE at park: STANDARDIZING, or POSITIONING when the break had one. -/
theorem test_resume_from_idle :
    let u (kept : Bool) : State :=
      let v := inBreak .brk (at_ .idle .scan)
      { v with trav := { v.trav with atPark := true }, mon := { v.mon with stdInBreak := kept } }
    (got (exec (.resumeSheet .sp0 1) (u false))).trav.state = .standardizing ∧
      (got (exec (.resumeSheet .sp0 1) (u true))).carriageTx = [⟨5, .move 400⟩] := by decide

/-- CompleteScansProveTheSheet: each break state; a width just good and just not; a count below and at RECOVERY_SCANS;
one ACTIVE record among others. -/
theorem witness_proving :
    let a := live.setup.active
    let r (n : Nat) : State :=
      { inBreak .recovery live with
        mon := { (inBreak .recovery live).mon with recovery := n, refWidth := some 18980 }
        alarms := ⟨[alarm 1 .cleared] ++ alarm 2 .active :: [alarm 3 .cleared], 4⟩ }
    live.mon.state = .unproven ∧ (inBreak .sheetOn live).mon.state = .sheetOn ∧ (r 0).mon.state = .recovery ∧
      18980 ≤ 18780 + a.recoveryTol ∧ ¬ 18980 ≤ 18779 + a.recoveryTol ∧ (r 0).mon.recovery + 1 < a.recoveryScans ∧
      a.recoveryScans ≤ (r 1).mon.recovery + 1 ∧
      (r 1).alarms.records = [alarm 1 .cleared] ++ alarm 2 .active :: [alarm 3 .cleared] ∧
      (alarm 2 .active).state = .active ∧
      (∀ x ∈ [alarm 1 .cleared] ++ [alarm 3 .cleared], x.state = .cleared ∧ x.id ≠ (alarm 2 .active).id) := by
  decide

/-- FinalizedScansJoinTheRing: set X and set Y finalizing outside TURN_WAIT, three entries, and a full ring whose oldest
entry is pinned. -/
theorem witness_finalized :
    let s : State := { live with edge := { live.edge with x := ended shortSnap ⟨620, 1380⟩ } }
    let full : Ring := ⟨[entry 1 false] ++ entry 2 false :: [entry 3 false, entry 4 false], ⟨some 1, none, none⟩, false, 0,
      false⟩
    s.edge.finalizing = some .x ∧ s.trav.state ≠ .turnWait ∧
      ({ live.edge with y := ended shortSnap ⟨620, 1380⟩ } : EdgeUnit).finalizing = some .y ∧
      s.edge.x.edges = some ⟨620, 1380, 760⟩ ∧ ([entry 1 false, entry 2 false, entry 3 false] : List RingEntry).length < 4 ∧
      4 ≤ full.entries.length ∧ full.entries = [entry 1 false] ++ entry 2 false :: [entry 3 false, entry 4 false] ∧
      full.pins.get .sp0 = some (entry 1 false).header.scan ∧
      (∀ p ∈ [PortId.sp0, .sp1, .sp2], full.pins.get p ≠ some (entry 2 false).header.scan) := by decide

/-- FinalizedInTurnWaitStartsAScan: set X finalizing and set Y waiting, the head at TURN_F or at TURN_D, with an entry
armed for the scan start. -/
theorem witness_finalized_in_turn_wait :
    let s : State :=
      armedWith waits { coming .turnF 62 .free .waiting with
        trav := { (coming .turnF 62 .free .waiting).trav with state := .turnWait }
        edge := { x := ended shortSnap ⟨620, 1380⟩, y := { ended shortSnap ⟨620, 1380⟩ with state := .waiting, scan := 61 },
                  mapping := none, jumps := 0, tracker := none } }
    s.edge.finalizing = some .x ∧ s.trav.state = .turnWait ∧ s.trav.target = some .turnF ∧
      s.setup.armed.filter (scanStartPicks s) = [waits] ∧ s.trav.scanNumber < 4294967295 ∧
      (s.edge.get .y).state = .waiting ∧ (coming .turnD 62 .free .waiting).trav.target = some .turnD := by decide

/-- CellsFollowTheReadings: a previous part that is valid and one that is not, for a reading that is ON and one that is
THIN; the filter constants at their ends. -/
theorem witness_cells :
    let cells := (entry 1 false).body.bw
    let off : List Cell := [⟨none, .off, ⟨.invalid, none, 0⟩⟩]
    cells[0]? = some ⟨some 8500, .on, ⟨.on, some 8500, 0⟩⟩ ∧ off[0]? = some ⟨none, .off, ⟨.invalid, none, 0⟩⟩ ∧
      rawState { snap with binOrigin := 1100 } ⟨1000, 19980, 18980⟩ 0 .bw ⟨3, 25680, 0, 0, 0, 0, 0⟩ = .on ∧
      rawValue .bw ⟨3, 25680, 0, 0, 0, 0, 0⟩ = some 8560 ∧
      rawState { snap with binOrigin := 1100 } ⟨1000, 19980, 18980⟩ 0 .bw ⟨2, 17120, 0, 0, 0, 0, 0⟩ = .thin ∧
      { snap with filterBw := 1 }.filterBw = 1 ∧ { snap with filterBw := 256 }.filterBw = 256 := by decide

/-- StatisticsSummarizeTheValues: a list of the largest value, and an entry with an ON bin. -/
theorem witness_statistics :
    [65535] ≠ ([] : List Nat) ∧
      (formCell shortSnap ⟨620, 1380, 760⟩ true none .bw 4 ⟨3, 25680, 0, 0, 0, 0, 0⟩).rawState = .on := by decide

/-- ZonesSpanTheMappingEdges: the short grid, and a profile whose last zone has no width. -/
theorem witness_zones :
    let a := ended shortSnap ⟨620, 1380⟩
    let flat := ended { shortSnap with shrinkCurve := List.replicate 10 0 ++ List.replicate 7 32768 } ⟨620, 620⟩
    (zonesOf a shortBody).isSome = true ∧ a.mapping = some ⟨620, 1380⟩ ∧ a.snap.shrinkCurve.length = 17 ∧
      a.snap.shrinkCurve.Pairwise (· ≤ ·) ∧ a.snap.shrinkCurve.head? = some 0 ∧
      a.snap.shrinkCurve.getLast? = some 32768 ∧ (zonesOf flat shortBody).map ZoneProfile.bounds = some [620, 620, 620, 620] ∧
      flat.snap.shrinkCurve.Pairwise (· ≤ ·) ∧ flat.snap.shrinkCurve.length = 17 := by decide

/-- IDLE with an intent, head-at-park and standardization due as given. -/
def idle (i : Intent) (park due : Bool) : State :=
  { at_ .idle i with trav := { (at_ .idle i).trav with atPark := park, stdDue := due } }

/-- ScanStartStartsTheFrame: a curve active, a curve armed, none; the three ways from IDLE, a break, a dwell nearer to
each turn point, and SCANNING. -/
theorem witness_scan_start_request :
    let bare : State := { State.reset with ports := ⟨up, up, up⟩ }
    (TakesAtOnce .sp0 bare ∧ bare.setup.active.bwCurve.isSome = false ∧ bare.setup.armed = []) ∧
      (∃ e ∈ (armedWith ⟨.bwCurve, .curve bwPoints, .next, .sp0⟩ bare).setup.armed, e.item = .bwCurve) ∧
      (TakesAtOnce .sp2 live ∧ live.setup.active.bwCurve.isSome = true ∧ live.mon.state ≠ .brk ∧
        live.mon.state ≠ .threading) ∧
      ((idle .off false true).trav.state = .idle ∧ (idle .off false true).trav.atPark = false) ∧
      ((idle .off true true).trav.atPark = true ∧ (idle .off true true).trav.stdDue = true) ∧
      ((idle .off true false).trav.atPark = true ∧ (idle .off true false).trav.stdDue = false) ∧
      ((inBreak .threading (idle .off true true)).trav.state = .idle ∧
        (inBreak .threading (idle .off true true)).mon.state = .threading) ∧
      ((at_ .dwelling .dwell).trav.state = .dwelling ∧ absDiff 10600 400 ≤ absDiff 10600 20800 ∧
        absDiff 10601 20800 < absDiff 10601 400) ∧
      ((scanning .fwd between).trav.state ≠ .idle ∧ (scanning .fwd between).trav.state ≠ .dwelling) := by decide

/-- ScanStopSendsTheHeadToPark: each traverse state, SCANNING with an entry armed for the scan end. -/
theorem witness_scan_stop :
    let s := armedWith waits (scanning .rev between)
    TakesAtOnce .sp1 s ∧ s.trav.state = .scanning ∧ s.trav.cur = some ⟨1, .rev, false⟩ ∧ s.edge.accumulating = some .x ∧
      NoLineEnable s ∧ (at_ .turnWait .scan).trav.state = .turnWait ∧
      (at_ .positioning .scan).trav.state = .positioning ∧ (at_ .dwelling .dwell).trav.state = .dwelling ∧
      (at_ .fault .scan).trav.state = .fault ∧ TakesAtOnce .sp1 (at_ .fault .scan) := by decide

/-- R152, R155: the end of a scan applies an entry for it and tells the generation. -/
theorem test_scan_stop_applies :
    let t := got (exec (.scanStop .sp0 1) (armedWith waits (scanning .rev between)))
    t.setup.active.edgeRun = 5 ∧ t.setup.armed = [] ∧ t.setup.generation = 1 ∧ t.trav.state = .parking := by decide

/-- DwellAtMovesTheHead: each traverse state, with the dwell at the same position and at another, and an entry armed for
the scan end. -/
theorem witness_dwell_at :
    let s := armedWith waits (scanning .fwd between)
    TakesAtOnce .sp0 s ∧ s.setup.active.turnF ≤ s.setup.active.turnD ∧
      (s.trav.state = .scanning ∧ s.trav.cur = some ⟨1, .fwd, false⟩ ∧ s.edge.accumulating = some .x ∧
        NoLineEnable s ∧ s.mon.state ≠ .brk ∧ s.mon.state ≠ .threading) ∧
      ((idle .off false true).trav.atPark = false ∧ (idle .off true true).trav.stdDue = true ∧
        (idle .off true false).trav.stdDue = false ∧ (inBreak .brk (idle .off true true)).mon.state = .brk) ∧
      ((at_ .turnWait .scan).trav.state = .turnWait ∧ (at_ .positioning .scan).trav.state = .positioning) ∧
      ((at_ .dwelling .dwell).trav.dwellPos ≠ 400 ∧ { live.trav with dwellPos := 400 }.dwellPos = 400) ∧
      (at_ .parking .scan).trav.state = .parking := by decide

/-- StandardizeNowAndClearFault: IDLE at park and away from it, another state, FAULT with the link UP and DOWN. -/
theorem witness_standardize_now :
    TakesAtOnce .sp0 live ∧ (idle .off true false).trav.state = .idle ∧ (idle .off true false).trav.atPark = true ∧
      (idle .off false false).trav.atPark = false ∧ (scanning .fwd between).trav.state ≠ .idle ∧
      (at_ .fault .scan).trav.state = .fault ∧ (at_ .fault .scan).link.up = true ∧ State.reset.link.up = false := by
  decide

/-- ReadsReportTheStateAndChangeNothing. -/
theorem witness_reads : TakesAtOnce .sp0 live ∧ TakesAtOnce .sp1 live ∧ TakesAtOnce .sp2 live := by decide

/-- ProfilesAreReadAndFlushed: each malformed set, an empty ring, a scan not held, and both selectors of a held entry.
-/
theorem witness_profiles :
    let s : State := { live with ring := { live.ring with entries := [entry 7 false, entry 8 true] } }
    let held := s.ring.entries.filter (fun e => !e.marked)
    TakesAtOnce .sp0 s ∧ (0 : BitVec 8) = 0 ∧ 16 ≤ (16 : BitVec 8).toNat ∧ 8 ≤ (8 : BitVec 8).toNat ∧
      (0 : BitVec 16).toNat < (1 : BitVec 16).toNat ∧ (live.ring.entries.filter (fun e => !e.marked)) = [] ∧
      (held ≠ [] ∧ ∀ e ∈ held, e.header.scan ≠ (8 : BitVec 32).toNat) ∧
      ((15 : BitVec 8) ≠ 0 ∧ (15 : BitVec 8).toNat < 16 ∧ (7 : BitVec 8) ≠ 0 ∧ (7 : BitVec 8).toNat < 8 ∧
        (640 : BitVec 16).toNat ≤ (640 : BitVec 16).toNat ∧ held.getLast? = some (entry 7 false) ∧
        held.find? (fun e => decide (e.header.scan = (7 : BitVec 32).toNat)) = some (entry 7 false)) := by decide

/-- OfferedValuesAreCheckedByKind: an item of each kind; a curve one point short, one of the right shape that meets its
top, and one that falls. -/
theorem witness_offered :
    let points : List (BitVec 16) := Setup.defaults.shrinkCurve.map (BitVec.ofNat 16)
    let ns := points.map BitVec.toNat
    Item.holdTime.shape = .scalar 1 65535 ∧ Item.tallyMode.shape = .enumerated 2 ∧
      Item.shrinkCurve.shape = .curve 17 32768 true ∧ (points.drop 1).length ≠ 17 ∧ points.length = 17 ∧
      (∀ n ∈ ns, n ≤ 32768) ∧ ns.Pairwise (· ≤ ·) ∧ ns.head? = some 0 ∧ ns.getLast? = some 32768 ∧
      points.reverse.length = 17 ∧ ¬ (points.reverse.map BitVec.toNat).Pairwise (· ≤ ·) ∧
      Item.bwCurve.shape = .curve 33 65535 false := by decide

/-- StagingListsBelongToTheirPort. -/
theorem witness_staging : TakesAtOnce .sp0 live ∧ TakesAtOnce .sp0 (staged ⟨.turnF, .scalar 300⟩ live) := by decide

/-- CommitsAreCheckedThenTaken: an empty list; a list that fails constraint 1 and names its second item first; a target
scan that has ended; a list that is taken; one that supersedes another port's entry and lets the group become due; a
line enable with LINE_DEBOUNCE 50 and with 0 while the line's level is asserted. -/
theorem witness_commit :
    let fails := staged ⟨.turnF, .scalar 100⟩ live
    let armed (s : State) := s.setup.armed.foldl (fun a e => a.put e.item e.value) s.setup.active
    let a (s : State) := (s.setup.staging.get .sp0).foldl (fun a e => a.put e.item e.value) (armed s)
    let meets (s : State) : Prop :=
      (a s).parkPos < (a s).turnF ∧ (a s).turnF ≤ (a s).indexF ∧ (a s).indexF < (a s).binOrigin ∧
        (a s).binOrigin + (a s).binCount * (a s).binWidth ≤ (a s).indexD ∧ (a s).indexD ≤ (a s).turnD ∧
        (a s).zoneCount ≤ (a s).binCount
    let takes := staged ⟨.turnF, .scalar 101⟩ live
    let supersedes := armedWith ⟨.turnF, .scalar 300, .scan 9, .sp1⟩ takes
    let enables (n : Nat) : State :=
      staged ⟨.breakLineEnable, .code 1⟩ (lines ⟨true, false, none⟩ quiet
        { live with setup := { live.setup with active := { setup with breakLineEnable := false, lineDebounce := n } } })
    TakesAtOnce .sp0 live ∧ live.setup.staging.get .sp0 = [] ∧
      (fails.setup.staging.get .sp0 ≠ [] ∧ ¬ (a fails).parkPos < (a fails).turnF ∧
        ([Item.parkPos, .turnF] : List Item) = [.parkPos] ++ .turnF :: [] ∧
        (∃ e ∈ fails.setup.staging.get .sp0, e.item = .turnF) ∧
        (∀ i ∈ [Item.parkPos], ∀ e ∈ fails.setup.staging.get .sp0, e.item ≠ i)) ∧
      (meets takes ∧ meets supersedes ∧ meets (enables 0)) ∧
      ((0 : BitVec 32).toNat = takes.trav.scanNumber ∧ takes.trav.cur = none) ∧
      ((takes.setup.staging.get .sp0).map Staged.item).Nodup ∧
      ¬ ((1 : BitVec 32).toNat < takes.trav.scanNumber ∨ (1 : BitVec 32).toNat = takes.trav.scanNumber) ∧
      ((a (enables 0)).breakLineEnable = true ∧ (enables 0).setup.active.breakLineEnable = false ∧
        (enables 0).mon.brk.level = true ∧ (a (enables 0)).lineDebounce = 0 ∧
        (a (enables 0)).tailLineEnable = (enables 0).setup.active.tailLineEnable ∧ (a (enables 50)).lineDebounce ≠ 0) ∧
      ((a takes).lineDebounce ≠ 0 ∧ (a takes).tailLineEnable = true) := by decide

/-- R146, R148, R153: an entry of SP1 gives way to SP0's; SP1 is told, and the group is due at once. -/
theorem test_commit_supersedes :
    let s := armedWith ⟨.turnF, .scalar 300, .scan 9, .sp1⟩ (staged ⟨.turnF, .scalar 101⟩ live)
    let t := got (exec (.commitSetup .sp0 1 .next) s)
    t.setup.armed = [⟨.turnF, .scalar 101, .next, .sp0⟩] ∧ t.trav.stdDue = true ∧
      t.ports.sp1.notices = [.setupSuperseded [.turnF] .sp0 .next [false]] := by decide

/-- R114, R115: a commit that enables an asserted line with LINE_DEBOUNCE 0 is the assertion edge. -/
theorem test_commit_enables_a_line :
    let s := lines ⟨true, false, none⟩ quiet
      { live with setup := { live.setup with active := { setup with breakLineEnable := false, lineDebounce := 0 } } }
    let t := got (exec (.commitSetup .sp0 1 .next) (staged ⟨.breakLineEnable, .code 1⟩ s))
    t.mon.brk = ⟨true, true, none⟩ ∧ t.mon.state = .brk := by decide

/-- TalliesAreReadAndCleared: the masks at the ends of each clause. -/
theorem witness_tallies :
    TakesAtOnce .sp0 live ∧ 16384 ≤ (16384 : BitVec 16).toNat ∧ (16383 : BitVec 16) ≠ 0 ∧
      (16383 : BitVec 16).toNat < 16384 := by decide

/-- RequestRowsAreArrivals: a WRITE SETUP that spells, and payloads that do not parse, with and without a first byte. -/
theorem witness_arrivals :
    (Request.writeSetup 1 (.scalar 0)).wellFormed = true ∧ (Instr.requestMalformed .sp0 0 [99]).wellFormed = true ∧
      (Instr.requestMalformed .sp0 0 []).wellFormed = true ∧ TakesAtOnce .sp0 live := by decide

/-- ArrivalsQueueOrAreRefused: seven and eight waiting, the threshold just missed and just met, three and four answers
waiting. -/
theorem witness_arrival_queue :
    let q (n : Nat) (held : Bool) : Port :=
      { up with engine := some ⟨[answer], false⟩, inbound := List.replicate n ⟨1, .readStatus⟩, holdSent := held }
    let a := live.setup.active
    (q 7 true).linkUp = true ∧ (q 7 true).engine.isSome = true ∧
      ((q 7 true).inbound.length < 8 ∧ (q 7 true).holdSent = true) ∧
      ((q 4 false).inbound.length + 1 < a.holdThreshold) ∧
      ((q 5 false).holdSent = false ∧ a.holdThreshold ≤ (q 5 false).inbound.length + 1) ∧
      ((q 8 true).inbound.length = 8 ∧
        (List.replicate 3 (⟨1, 2, false, .full, .occupancy 8⟩ : Response)).length < 4 ∧
        (List.replicate 4 (⟨1, 2, false, .full, .occupancy 8⟩ : Response)).length = 4) := by
  simp only [answer]
  decide

/-- HoldsPauseOnePort: an UP port; a hold in force and none, with an expiry of it waiting in the queue and without; an
expiry that a HOLD has overtaken; a part hold at the threshold and one below it. -/
theorem witness_holds :
    let q (n : Nat) : Port :=
      { up with inbound := List.replicate n ⟨1, .readStatus⟩, holdSent := true, partTimer := some 100, masterHold := some 1 }
    let s : State := { withPort (q 0) live with pending := [.finalized, .masterHoldExpiry .sp0] }
    ((s.ports.get .sp0).linkUp = true ∧ (∃ c ∈ s.pending, c = .masterHoldExpiry .sp0) ∧
      (s.ports.get .sp0).masterHold.isSome = true ∧ (1 : BitVec 16) ≠ 0) ∧
      ((¬ ∃ c ∈ s.pending, c = .masterHoldExpiry .sp1) ∧ (live.ports.get .sp0).masterHold = none) ∧
      ((q 0).overtaken = false ∧ { q 0 with overtaken := true }.overtaken = true) ∧
      ((q 0).partTimer.isSome = true ∧ live.setup.active.holdThreshold ≤ (q 6).inbound.length ∧
        (q 5).inbound.length < live.setup.active.holdThreshold) := by decide

/-- R177: a HOLD and the expiry of the hold it renews come together: the hold is in force after both, in either order.
-/
theorem test_hold_and_expiry_together :
    let s (l : List Instr) : State :=
      { withPort { up with masterHold := some 500 } live with pending := l }
    let both (l : List Instr) : State := got (step (got (step (s l))))
    (both [.hold .sp0 300, .masterHoldExpiry .sp0]).ports.sp0 = { up with masterHold := some 300 } ∧
      (both [.masterHoldExpiry .sp0, .hold .sp0 300]).ports.sp0 = { up with masterHold := some 300 } ∧
      (both [.hold .sp0 0, .masterHoldExpiry .sp0]).ports.sp0 = up := by decide

/-- PortResetsClearOnePort: a port UP and a port DOWN; a frame in sending that is a reset answer and one that is not. -/
theorem witness_port_resets :
    let q : Port := { up with resetAnswer := some 9, sending := some ⟨.portReset 9, .resetAnswer, false⟩ }
    (live.ports.get .sp0).linkUp = true ∧ (State.reset.ports.get .sp0).linkUp = false ∧
      ((withPort q live).ports.get .sp0).sending.map Sending.source = some .resetAnswer := by decide

/-- R173: a second PORT_RESET while the first one's answer is not yet sent: one answer, with the second tag. -/
theorem test_second_port_reset :
    let q := { up with masterHold := some 5, sending := some ⟨.notice moved false, .notice, false⟩, notices := [moved] }
    let t := got (exec (.portReset .sp0 2) (got (exec (.portReset .sp0 1) (withPort q live))))
    let u := got (exec (.frameSent .sp0) t)
    let v := got (exec (.portReset .sp0 3) u)
    u.ports.sp0.sending = some ⟨.portReset 2, .resetAnswer, false⟩ ∧
      v.ports.sp0.sending = some ⟨.portReset 3, .resetAnswer, false⟩ ∧
      (got (exec (.frameSent .sp0) v)).ports.sp0.sending = none := by decide

/-- SentFramesLeaveTheirList: a frame from each list in sending; the last frame of a response, of a transfer, and each
with a request waiting behind it. -/
theorem witness_sent_frames :
    let send (x : TxSource) (f : TxFrame) : Option Sending := some ⟨f, x, false⟩
    let q (x : TxSource) (f : TxFrame) : Port := { up with sending := send x f }
    let s (x : TxSource) (f : TxFrame) := withPort (q x f) live
    ((s .resetAnswer (.portReset 9)).ports.get .sp0).sending = send .resetAnswer (.portReset 9) ∧
      ((s .partHold (.hold 100)).ports.get .sp0).sending = send .partHold (.hold 100) ∧
      ((s .refusal answer).ports.get .sp0).sending = send .refusal answer ∧
      ((s .orphan answer).ports.get .sp0).sending = send .orphan answer ∧
      ((s .notice (.notice moved true)).ports.get .sp0).sending = send .notice (.notice moved true) ∧
      ((s .engine answer).ports.get .sp0).inbound = [] ∧
      (let e (j : Job) (l : List Queued) : Port := { q .engine answer with engine := some j, inbound := l };
        (e ⟨answer :: answer :: [], true⟩ []).engine = some ⟨answer :: answer :: [], true⟩ ∧
          (e ⟨[answer], false⟩ []).engine = some ⟨[answer], false⟩ ∧ (e ⟨[answer], true⟩ []).inbound = [] ∧
          (e ⟨[answer], false⟩ [⟨1, .readStatus⟩]).inbound = ⟨1, .readStatus⟩ :: [] ∧
          (e ⟨[answer], true⟩ [⟨1, .readStatus⟩]).engine = some ⟨[answer], true⟩) := by decide

/-- R167, R98: the last frame of a transfer releases the pin, and the waiting request is taken. -/
theorem test_transfer_sent :
    let q := { up with engine := some ⟨[answer], true⟩, inbound := [⟨7, .discardStaging⟩],
                       sending := some ⟨answer, .engine, false⟩ }
    let s := withPort q { live with ring := ⟨[entry 7 true], ⟨some 7, none, none⟩, false, 0, false⟩ }
    let t := got (exec (.frameSent .sp0) s)
    t.ring.pins.sp0 = none ∧ t.ring.entries = [] ∧ t.ports.sp0.inbound = [] ∧
      replies .sp0 (exec (.frameSent .sp0) s) = some (.done, .empty) := by decide

/-- The invariants hold at reset, and a step from there, with a command waiting, answers a next state. -/
theorem witness_invariants :
    let s : State := { State.reset with pending := [.headStatus 0] }
    AlarmsMatch s ∧ ScanMatches s ∧ FinalizerMatches s ∧ ParkedInBreak s ∧ FlightMatches s ∧ RingSound s ∧
      SetupSound s ∧ PortsSound s ∧ TalliesInRange s ∧ TraverseInRange s ∧ ∃ t, step s = .next t := by
  refine ⟨by decide, ⟨by decide, rfl, by decide, by decide⟩, by decide, by decide,
    by decide, ⟨by decide, by decide, by decide, by decide, rfl, rfl, rfl⟩, by decide,
    by decide, by decide, by decide, ⟨_, rfl⟩⟩

end Sys2Proof.Tests
end

section
/-! ## Proofs: the ports' bounds and the tallies' range under the shared operations (R163, R168 to R171, R178) -/

namespace Sys2Proof.Machine

/-! ### The notice queue of one port -/

theorem Port.begun_append_unbegun (q : Port) : q.begun ++ q.unbegun = q.notices := by
  unfold Port.begun Port.unbegun
  split
  · exact List.take_append_drop 1 q.notices
  · rfl

/-- Behind the notices in sending, a queue that begins with them holds at most what follows them. -/
theorem Port.unbegun_sublist (q q' : Port) (l : List Notice) (hs : q'.sendingNotice = q.sendingNotice)
    (hn : q'.notices = q.begun ++ l) : q'.unbegun.Sublist l := by
  unfold Port.unbegun Port.begun at *
  rw [hs, hn]
  split
  · cases q.notices with
    | nil => simpa using List.drop_sublist 1 l
    | cons n rest => simp
  · simp

/-- R170: dropping one notice leaves one fewer, among those that were there. -/
theorem dropOne_sublist (l : List Notice) : (dropOne l).Sublist l := by
  unfold dropOne
  split
  · exact List.eraseP_sublist
  · exact List.drop_sublist 1 l

theorem length_dropOne (l : List Notice) : (dropOne l).length = l.length - 1 := by
  unfold dropOne
  split
  · rename_i h
    obtain ⟨n, hn, hp⟩ := List.any_eq_true.1 h
    exact List.length_eraseP_of_mem hn hp
  · simp

/-- R168 to R170: a notice queued keeps the port within its bounds. -/
theorem portSound_queue (n : Notice) (q : Port) (h : PortSound q) : PortSound (q.queue n) := by
  obtain ⟨hin, href, hlen, hready⟩ := h
  have hsplit := congrArg List.length q.begun_append_unbegun
  rw [List.length_append] at hsplit
  unfold Port.queue
  split
  case isTrue hrep =>
    obtain ⟨hn, hany⟩ := Bool.and_eq_true_iff.1 hrep
    obtain ⟨m, hm, hmr⟩ := List.any_eq_true.1 hany
    obtain ⟨r, l₁, l₂, _, hr, hl, he⟩ := List.exists_of_eraseP hm hmr
    refine ⟨hin, href, ?_, ?_⟩
    · have hl' := congrArg List.length hl
      simp [he] at hl' ⊢
      omega
    · have hsub := Port.unbegun_sublist q { q with
          notices := q.begun ++ q.unbegun.eraseP Notice.isProfileReady ++ [n] } (l₁ ++ l₂ ++ [n]) rfl (by simp [he])
      refine (hsub.filter _).length_le.trans ?_
      rw [hl] at hready
      simp [hn, hr] at hready ⊢
      omega
  case isFalse hrep =>
    have hjoin : ((q.unbegun ++ [n]).filter Notice.isProfileReady).length ≤ 1 := by
      by_cases hn : n.isProfileReady = true
      · have hnone : q.unbegun.filter Notice.isProfileReady = [] := by
          simpa [Port.replaces, hn] using hrep
        simp [hnone, hn]
      · simpa [hn] using hready
    split
    · refine ⟨hin, href, by simp [length_dropOne]; omega, ?_⟩
      have hsub := (Port.unbegun_sublist q { q with
          notices := q.begun ++ dropOne (q.unbegun ++ [n]), overrun := true,
          sending := q.sending.map (fun x => { x with dropped := true }) } _
        (by unfold Port.sendingNotice; cases q.sending <;> rfl) rfl).trans (dropOne_sublist _)
      exact (hsub.filter _).length_le.trans hjoin
    · refine ⟨hin, href, by simp; omega, ?_⟩
      have hsub := Port.unbegun_sublist q { q with notices := q.notices ++ [n] } (q.unbegun ++ [n]) rfl
        (by rw [← List.append_assoc, q.begun_append_unbegun])
      exact (hsub.filter _).length_le.trans hjoin

/-- R167: a sender that takes a frame keeps the port within its bounds. -/
theorem portSound_startSend (q : Port) (h : PortSound q) : PortSound q.startSend := by
  obtain ⟨hin, href, hlen, hready⟩ := h
  unfold Port.startSend
  split
  case isFalse => exact ⟨hin, href, hlen, hready⟩
  case isTrue hfree =>
    refine ⟨hin, href, hlen, ?_⟩
    have hnone : q.sending = none := by simp_all
    have hbefore : q.unbegun = q.notices := by simp [Port.unbegun, Port.sendingNotice, hnone]
    rw [hbefore] at hready
    refine le_trans (List.Sublist.length_le (List.Sublist.filter _ ?_)) hready
    unfold Port.unbegun
    split
    · exact List.drop_sublist 1 _
    · exact List.Sublist.refl _

/-! ### The bank and the ports together -/

/-- R163, R168, R169, R178: the ports are within their bounds and the tallies in range. -/
abbrev Banked (s : State) : Prop := PortsSound s ∧ TalliesInRange s

theorem portsSound_iff (s : State) : PortsSound s ↔ ∀ p, PortSound (s.ports.get p) := by
  constructor
  · rintro ⟨h0, h1, h2⟩ p
    cases p
    · exact h0
    · exact h1
    · exact h2
  · intro h
    exact ⟨h .sp0, h .sp1, h .sp2⟩

theorem portsSound_onPort (s : State) (p : PortId) (f : Port → Port) (h : PortsSound s)
    (hf : PortSound (s.ports.get p) → PortSound (f (s.ports.get p))) : PortsSound (s.onPort p f) := by
  rw [portsSound_iff] at h ⊢
  intro q
  by_cases e : q = p
  · subst e
    simpa using hf (h q)
  · simpa [PerPort.get_set_other _ _ _ _ e] using h q

theorem TallyId.mem_all (id : TallyId) : id ∈ TallyId.all := by cases id <;> decide

theorem talliesInRange_iff (s : State) : TalliesInRange s ↔ ∀ id, (s.tallies.get id).value ≤ max32 :=
  ⟨fun h id => h id id.mem_all, fun h id _ => h id⟩

/-- R180: a count keeps its tally in range. -/
theorem countedValue_le (mode : TallyMode) (value amount : Nat) (hv : value ≤ max32) (ha : amount ≤ max32) :
    countedValue mode value amount ≤ max32 := by
  unfold countedValue
  cases mode <;> split <;> simp only [max32] at * <;> omega

theorem banked_bump (id : TallyId) (n : Nat) (s : State) (hn : n ≤ max32) (h : Banked s) : Banked (bump id n s) := by
  refine ⟨h.1, ?_⟩
  have ht := (talliesInRange_iff s).1 h.2
  rw [talliesInRange_iff]
  intro other
  by_cases e : other = id
  · subst e
    simpa [bump] using countedValue_le _ _ _ (ht other) hn
  · simpa [bump, TallyBank.get_set_other _ _ _ _ e] using ht other

theorem banked_onPort_queue (n : Notice) (p : PortId) (s : State) (h : Banked s) :
    Banked (s.onPort p (fun q => q.queue n)) :=
  ⟨portsSound_onPort s p _ h.1 (portSound_queue n _), h.2⟩

theorem banked_queueLast (n : Notice) (p : PortId) (s : State) (h : Banked s) : Banked (queueLast n p s) := by
  unfold queueLast
  split
  · exact banked_bump _ _ _ (by decide) (banked_onPort_queue n p s h)
  · exact banked_onPort_queue n p s h

theorem banked_atSubscribers (code : Nat) (act : PortId → State → State)
    (hact : ∀ p s, Banked s → Banked (act p s)) (s : State) (h : Banked s) : Banked (atSubscribers code act s) := by
  have one (p : PortId) (s : State) (h : Banked s) :
      Banked (if (s.ports.get p).subscribed code then act p s else s) := by
    split
    · exact hact p s h
    · exact h
  exact one .sp2 _ (one .sp1 _ (one .sp0 s h))

theorem banked_countDrop (s : State) (h : Banked s) : Banked (countDrop s) := by
  have hb := banked_bump .noticesDropped 1 s (by decide) h
  unfold countDrop
  split
  · exact banked_atSubscribers _ _ (banked_queueLast _) _ hb
  · exact hb

theorem banked_queueAt (n : Notice) (p : PortId) (s : State) (h : Banked s) : Banked (queueAt n p s) := by
  unfold queueAt
  split
  · exact banked_countDrop _ (banked_onPort_queue n p s h)
  · exact banked_onPort_queue n p s h

theorem banked_notify (n : Notice) (s : State) (h : Banked s) : Banked (notify n s) :=
  banked_atSubscribers _ _ (banked_queueAt n) s h

theorem banked_count (id : TallyId) (n : Nat) (s : State) (hn : n ≤ max32) (h : Banked s) : Banked (count id n s) := by
  have hb := banked_bump id n s hn h
  unfold count
  split
  · exact banked_notify _ _ hb
  · exact hb

theorem banked_settle (s : State) (h : Banked s) : Banked (settle s) :=
  ⟨⟨portSound_startSend _ h.1.1, portSound_startSend _ h.1.2.1, portSound_startSend _ h.1.2.2⟩, h.2⟩

end Sys2Proof.Machine
end

section
/-! ## Proofs: what the shared operations leave of the frame

The invariants of the frame speak of few fields: those of `FrameView`, the group-due mark, the break state, the ports'
bounds and the tallies' range. `Steady` says of an operation that it keeps all of these but the break state. -/

namespace Sys2Proof.Machine

/-- What the invariants read of an accumulator set. -/
structure SetView where
  state   : SetState
  scan    : Nat
  dir     : Dir
  slipped : Bool

/-- What the invariants read of the frame: the traverse controller, the sets and the standardization in flight. -/
structure FrameView where
  state      : TravState
  cur        : Option CurScan
  scanNumber : Nat
  pos        : Nat
  sinceStd   : Nat
  failCount  : Nat
  x          : SetView
  y          : SetView
  tracking   : Bool
  flying     : Bool

def AccSet.view (a : AccSet) : SetView := ⟨a.state, a.scan, a.dir, a.slipped⟩

def State.frame (s : State) : FrameView :=
  ⟨s.trav.state, s.trav.cur, s.trav.scanNumber, s.trav.pos, s.trav.sinceStd, s.trav.failCount, s.edge.x.view,
    s.edge.y.view, s.edge.tracker.isSome, s.std.flight.isSome⟩

/-- `t` is as `s` in all that the invariants read but the break state; the group-due mark may be set in STANDARDIZING
(R153), and notices and counts keep the ports and the tallies within their bounds. -/
structure Steady (s t : State) : Prop where
  frame : t.frame = s.frame
  mark  : t.setup.groupMark = true → s.setup.groupMark = true ∨ s.trav.state = .standardizing
  bank  : Banked s → Banked t

namespace Steady

variable {s t u : State}

theorem refl (s : State) : Steady s s := ⟨rfl, .inl, id⟩

theorem state (h : Steady s t) : t.trav.state = s.trav.state := congrArg FrameView.state h.frame
theorem cur (h : Steady s t) : t.trav.cur = s.trav.cur := congrArg FrameView.cur h.frame
theorem scanNumber (h : Steady s t) : t.trav.scanNumber = s.trav.scanNumber := congrArg FrameView.scanNumber h.frame
theorem pos (h : Steady s t) : t.trav.pos = s.trav.pos := congrArg FrameView.pos h.frame
theorem sinceStd (h : Steady s t) : t.trav.sinceStd = s.trav.sinceStd := congrArg FrameView.sinceStd h.frame
theorem failCount (h : Steady s t) : t.trav.failCount = s.trav.failCount := congrArg FrameView.failCount h.frame
theorem x (h : Steady s t) : t.edge.x.view = s.edge.x.view := congrArg FrameView.x h.frame
theorem y (h : Steady s t) : t.edge.y.view = s.edge.y.view := congrArg FrameView.y h.frame
theorem tracking (h : Steady s t) : t.edge.tracker.isSome = s.edge.tracker.isSome :=
  congrArg FrameView.tracking h.frame
theorem flying (h : Steady s t) : t.std.flight.isSome = s.std.flight.isSome := congrArg FrameView.flying h.frame
theorem xState (h : Steady s t) : t.edge.x.state = s.edge.x.state := congrArg SetView.state h.x
theorem yState (h : Steady s t) : t.edge.y.state = s.edge.y.state := congrArg SetView.state h.y

theorem trans (h : Steady s t) (k : Steady t u) : Steady s u :=
  ⟨k.frame.trans h.frame, fun m => (k.mark m).elim h.mark fun e => .inr (h.state.symm.trans e), k.bank ∘ h.bank⟩

/-- An update of other fields is steady; all four premises are true by definition where it is used. -/
theorem of_eq (hf : t.frame = s.frame) (hm : t.setup.groupMark = s.setup.groupMark) (hp : t.ports = s.ports)
    (ht : t.tallies = s.tallies) : Steady s t :=
  ⟨hf, fun m => .inl (hm ▸ m), fun b => by simpa only [Banked, PortsSound, TalliesInRange, hp, ht] using b⟩

theorem of_onlyNotices {ids : List TallyId} (h : OnlyNotices ids s t) (hb : Banked s → Banked t) : Steady s t :=
  ⟨by simp only [State.frame, h.trav, h.edge, h.std], fun m => .inl (by rwa [h.setup] at m), hb⟩

end Steady

/-! ### Notices, counts, alarms and head commands

Each operation is stated as the last of a run of operations, so that a proof follows the definition from its end to its
start. -/

variable {s t : State}

theorem Steady.thenNotify (h : Steady s t) (n : Notice) : Steady s (notify n t) :=
  h.trans (.of_onlyNotices (onlyNotices_notify [] n t) (banked_notify n t))

theorem Steady.thenQueueAt (h : Steady s t) (n : Notice) (p : PortId) : Steady s (queueAt n p t) :=
  h.trans (.of_onlyNotices (onlyNotices_queueAt [] n p t) (banked_queueAt n p t))

theorem Steady.thenCount (h : Steady s t) (id : TallyId) (n : Nat) (hn : n ≤ max32) : Steady s (count id n t) :=
  h.trans (.of_onlyNotices (onlyNotices_count id n t) (banked_count id n t hn))

theorem Steady.thenCountOne (h : Steady s t) (id : TallyId) : Steady s (count id 1 t) := h.thenCount id 1 (by decide)

theorem Steady.thenCountTimes (h : Steady s t) (id : TallyId) (n : Nat) : Steady s (countTimes id n t) := by
  induction n generalizing t with
  | zero => exact h
  | succ n ih => exact ih (h.thenCountOne id)

theorem Steady.thenSettle (h : Steady s t) : Steady s (settle t) :=
  h.trans (.of_onlyNotices (onlyNotices_settle [] t) (banked_settle t))

theorem Steady.thenOnPort (h : Steady s t) (p : PortId) (f : Port → Port)
    (hf : PortSound (t.ports.get p) → PortSound (f (t.ports.get p))) : Steady s (t.onPort p f) :=
  h.trans ⟨rfl, .inl, fun b => ⟨portsSound_onPort t p f b.1 hf, b.2⟩⟩

theorem Steady.thenFreeCount (h : Steady s t) (n : Nat) : Steady s { t with freeCount := n } :=
  h.trans (.of_eq rfl rfl rfl rfl)

theorem Steady.thenOnMon (h : Steady s t) (f : BreakMonitor → BreakMonitor) : Steady s (t.onMon f) :=
  h.trans (.of_eq rfl rfl rfl rfl)

theorem Steady.thenOnLine (h : Steady s t) (l : Line) (f : LineState → LineState) : Steady s (t.onLine l f) :=
  h.trans (.of_eq rfl rfl rfl rfl)

theorem Steady.thenOnAlarms (h : Steady s t) (f : List Alarm → List Alarm) : Steady s (t.onAlarms f) :=
  h.trans (.of_eq rfl rfl rfl rfl)

theorem Steady.thenOnLink (h : Steady s t) (f : CarriageLink → CarriageLink) : Steady s (t.onLink f) :=
  h.trans (.of_eq rfl rfl rfl rfl)

theorem Steady.thenOnSetup (h : Steady s t) (f : SetupStore → SetupStore)
    (hf : (f t.setup).groupMark = t.setup.groupMark) : Steady s (t.onSetup f) :=
  h.trans (.of_eq rfl hf rfl rfl)

theorem Steady.thenOnTrav (h : Steady s t) (f : Traverse → Traverse) (hf : (t.onTrav f).frame = t.frame) :
    Steady s (t.onTrav f) :=
  h.trans (.of_eq hf rfl rfl rfl)

theorem Steady.thenRaiseAlarm (h : Steady s t) (kind : AlarmKind) (cause : Option Cause) (scan : Nat)
    (pos : Option Nat) : Steady s (raiseAlarm kind cause scan pos t) := by
  refine Steady.thenOnAlarms (Steady.thenNotify (t := { t with alarms := _ }) ?_ _) _
  exact h.trans (.of_eq rfl rfl rfl rfl)

theorem Steady.thenClearBreakAlarm (h : Steady s t) : Steady s (clearBreakAlarm t) := by
  unfold clearBreakAlarm
  split
  · exact h
  · exact ((h.thenOnAlarms _).thenNotify _).thenOnAlarms _

theorem Steady.thenRebreakAlarm (h : Steady s t) : Steady s (rebreakAlarm t) := by
  unfold rebreakAlarm
  split
  · exact h
  · exact (h.thenOnAlarms _).thenNotify _

theorem Steady.thenIssue (h : Steady s t) (c : HeadCmd) : Steady s (issue c t) := h.trans (.of_eq rfl rfl rfl rfl)

/-! ### The break monitor -/

theorem Steady.thenBreakEffects (h : Steady s t) : Steady s (breakEffects t) := h.trans (.of_eq rfl rfl rfl rfl)

theorem Steady.thenBreakCause (h : Steady s t) (cause : Cause) (scan : Nat) (pos : Option Nat) :
    Steady s (breakCause cause scan pos t) := by
  have declared : Steady s (declareBreak cause scan pos t) :=
    ((((h.thenOnMon _).thenBreakEffects.thenRaiseAlarm _ _ _ _).thenOnMon _).thenCountOne _).thenNotify _
  unfold breakCause
  split
  · exact declared
  · exact declared
  · exact (((h.thenOnMon _).thenBreakEffects.thenRebreakAlarm).thenCountOne _).thenNotify _
  · exact h
  · exact h

theorem Steady.thenEnterRecovery (h : Steady s t) (cause : Cause) : Steady s (enterRecovery cause t) :=
  ((h.thenOnMon _).thenOnTrav _ rfl).thenNotify _

theorem Steady.thenEnterThreading (h : Steady s t) : Steady s (enterThreading t) := (h.thenOnMon _).thenNotify _

theorem Steady.thenProvenSheet (h : Steady s t) : Steady s (provenSheet t) :=
  ((h.thenOnMon _).thenClearBreakAlarm.thenOnMon _).thenNotify _

theorem Steady.thenReportComplete (h : Steady s t) (width : Nat) : Steady s (reportComplete width t) := by
  unfold reportComplete
  split
  · exact (h.thenOnMon _).thenNotify _
  · split
    · dsimp only
      split
      · exact (h.thenOnMon _).thenProvenSheet
      · exact h.thenOnMon _
    · exact h.thenOnMon _
  all_goals exact h

theorem Steady.thenEdgeEffect (h : Steady s t) (l : Line) : Steady s (edgeEffect l t) := by
  unfold edgeEffect
  split
  · exact h.thenBreakCause _ _ _
  · exact h.thenEnterRecovery _
  · split
    · exact h.thenEnterThreading
    · exact h

theorem Steady.thenTakeLevel (h : Steady s t) (l : Line) : Steady s (takeLevel l t) := h.thenOnLine _ _

theorem Steady.thenCompareLevel (h : Steady s t) (l : Line) : Steady s (compareLevel l t) := by
  unfold compareLevel
  exact h.thenOnLine _ _

theorem Steady.thenResetLine (h : Steady s t) (l : Line) (old : Setup) : Steady s (resetLine l old t) := by
  unfold resetLine
  split
  · exact h
  · exact h.thenOnLine _ _

theorem Steady.thenEnableInScanEnd (h : Steady s t) (l : Line) (old : Setup) :
    Steady s (enableInScanEnd l old t) := by
  unfold enableInScanEnd
  dsimp only
  split
  · split
    · exact ((h.thenResetLine l old).thenTakeLevel l).thenEdgeEffect l
    · exact (h.thenResetLine l old).thenCompareLevel l
  · exact h.thenResetLine l old

/-! ### Apply events and commits -/

theorem Steady.thenApplyValues (h : Steady s t) (l : List (Item × SetupValue)) (point : ApplyPoint) :
    Steady s (applyValues l point t) := by
  unfold applyValues
  split
  · exact h
  · exact (h.thenOnSetup _ rfl).thenNotify _

theorem Steady.thenApplyArmed (h : Steady s t) (sel : Armed → Bool) (point : ApplyPoint) :
    Steady s (applyArmed sel point t) :=
  (h.thenOnSetup _ rfl).thenApplyValues _ _

theorem Steady.thenTestGroup (h : Steady s t) (was : Bool) : Steady s (testGroup was t) := by
  unfold testGroup
  split
  · split
    · rename_i hs
      exact h.trans ⟨rfl, fun _ => .inr hs, id⟩
    · exact h.thenOnTrav _ rfl
  · exact h

theorem Steady.thenApplyScanEnd (h : Steady s t) (was : Bool) : Steady s (applyScanEnd was t) :=
  (((h.thenApplyArmed _ _).thenTestGroup _).thenEnableInScanEnd _ _).thenEnableInScanEnd _ _

theorem Steady.thenApplyGroup (h : Steady s t) : Steady s (applyGroup t) := by
  unfold applyGroup
  split
  · exact h.thenApplyArmed _ _
  · exact h

theorem Steady.thenNotifySuperseded (h : Steady s t) (armed : List Armed) (l : List Staged) (p : PortId)
    (target : Target) (q : PortId) : Steady s (notifySuperseded armed l p target q t) := by
  unfold notifySuperseded
  dsimp only
  split
  · exact h
  · exact h.thenQueueAt _ _

theorem Steady.thenCommitTaken (h : Steady s t) (p : PortId) (target : Target) :
    Steady s (commitTaken p target t) := by
  unfold commitTaken
  dsimp only
  split
  · exact ((((((h.thenOnSetup _ rfl).thenOnSetup _ rfl).thenApplyValues _ _).thenNotifySuperseded _ _ _ _ _
      ).thenNotifySuperseded _ _ _ _ _).thenNotifySuperseded _ _ _ _ _).thenTestGroup _
  · exact (((((h.thenOnSetup _ rfl).thenOnSetup _ rfl).thenApplyValues _ _).thenNotifySuperseded _ _ _ _ _
      ).thenNotifySuperseded _ _ _ _ _).thenNotifySuperseded _ _ _ _ _

/-! ### Edges and bins -/

theorem Steady.thenOnEdge (h : Steady s t) (f : EdgeUnit → EdgeUnit) (hf : (t.onEdge f).frame = t.frame) :
    Steady s (t.onEdge f) :=
  h.trans (.of_eq hf rfl rfl rfl)

theorem Steady.thenUpdateMapping (h : Steady s t) (e : ScanEdges) (snap : Snapshot) (scan : Nat) :
    Steady s (updateMapping e snap scan t) := by
  unfold updateMapping
  dsimp only
  split
  · exact h.thenOnEdge _ rfl
  · split
    · exact h.thenOnEdge _ rfl
    · split
      all_goals exact ((h.thenCountOne _).thenRaiseAlarm _ _ _ _).thenOnEdge _ rfl

/-- A set whose bins and count of samples change keeps its view. -/
theorem Steady.thenOnSet (h : Steady s t) (i : SetId) (f : AccSet → AccSet)
    (hf : (f (t.edge.get i)).view = (t.edge.get i).view) : Steady s (t.onSet i f) := by
  refine h.trans (.of_eq ?_ rfl rfl rfl)
  cases i <;> simp_all [State.frame, EdgeUnit.set, EdgeUnit.get]

theorem Steady.thenTrack (h : Steady s t) (ht : t.edge.tracker.isSome = true) (k : Tracker) :
    Steady s (t.onEdge (fun e => { e with tracker := some k })) :=
  h.thenOnEdge _ (by simp [State.frame, ht])

theorem Steady.thenAddToBin (h : Steady s t) (i : SetId) (j : Nat) (c : Converted) : Steady s (addToBin i j c t) := by
  unfold addToBin
  have added := h.thenOnSet i (fun a => { a with
    bins := a.bins.modify j (fun b => b.add c), accepted := acceptedAfter (t.edge.get i).accepted t.freeCount }) rfl
  exact (added.thenFreeCount _).thenCountTimes _ _

theorem Steady.thenBinStage (h : Steady s t) (ht : t.edge.tracker.isSome = true) (i : SetId) (k : Tracker)
    (c : Converted) : Steady s (binStage i k c t) := by
  unfold binStage
  split
  · exact h.thenCountOne _
  · split
    · exact h.thenCountOne _
    · exact (h.thenTrack ht _).thenAddToBin _ _ _

theorem Steady.thenSheetSample (h : Steady s t) (ht : t.edge.tracker.isSome = true) (i : SetId) (k : Tracker)
    (c : Converted) : Steady s (sheetSample i k c t) := by
  unfold sheetSample
  dsimp only
  split
  · refine Steady.thenBinStage (((h.thenTrack ht _).thenCountOne _).thenRaiseAlarm _ _ _ _) ?_ _ _ _
    simp
  · exact (h.thenTrack ht _).thenBinStage rfl _ _ _

theorem Steady.thenAirTracked (h : Steady s t) (ht : t.edge.tracker.isSome = true) (i : SetId) (k : Tracker)
    (c : Converted) : Steady s (airTracked i k c t) := h.thenTrack ht _

end Sys2Proof.Machine
end

section
/-! ## Proofs: what the traverse controller's operations do to the frame

Each lemma says of an operation that it is steady from a state written out in full. -/

namespace Sys2Proof.Machine

variable {s t : State}

/-- The traverse state replaced, with nothing else. -/
def State.inState (st : TravState) (s : State) : State := s.onTrav (fun t => { t with state := st })

/-- The standardization in flight replaced. -/
def State.inFlight (x : Option StdFlight) (s : State) : State := s.onStd (fun u => { u with flight := x })

/-- R76: the scan in progress removed with its set and its tracker. -/
def droppedScan (s : State) : State := { gatheringFreed s with trav := { s.trav with cur := none } }

/-- R23: FAULT, with the scan in progress and the standardization in flight gone. -/
def faultedFrame (s : State) : State :=
  { s with
    trav := { s.trav with state := .fault, cur := none }
    edge := if s.trav.cur.isSome then (gatheringFreed s).edge else s.edge
    std := { s.std with flight := if s.trav.state = .standardizing then none else s.std.flight }
    setup := { s.setup with groupMark := s.setup.groupMark && decide (s.trav.state ≠ .standardizing) } }

/-- R15, R74: a scan in SCANNING, with the next number, in set `i`. -/
def begunScan (i : SetId) (dir : Dir) (s : State) : State :=
  { s with
    trav := { s.trav with state := .scanning, scanNumber := s.trav.scanNumber + 1
                          cur := some ⟨s.trav.scanNumber + 1, dir, false⟩ }
    edge := { s.edge.set i (claimedSet (s.trav.scanNumber + 1) dir s) with tracker := some Tracker.fresh } }

/-- R76, R77: the scan in progress over, its set with the finalizer. -/
def handedScan (i : SetId) (s : State) : State :=
  let st : SetState := if (s.edge.get i.other).state = .finalizing then .waiting else .finalizing
  { s with
    trav := { s.trav with cur := none }
    edge := { s.edge.set i { s.edge.get i with state := st } with tracker := none } }

/-- R35, R36: a standardization concluded, with these counts. -/
def concludedFrame (fails since : Nat) (s : State) : State :=
  { s with
    trav := { s.trav with failCount := fails, sinceStd := since }
    std := { s.std with flight := none }
    setup := { s.setup with groupMark := false } }

/-! ### Changes of state -/

theorem steady_changeState (st : TravState) (s : State) : Steady (s.inState st) (changeState st s) := by
  unfold changeState
  split
  · rename_i h
    subst h
    exact .refl s
  · refine Steady.thenNotify ?_ _
    exact .of_eq rfl rfl rfl rfl

/-- Operations that leave the group-due mark are steady whatever the traverse state. -/
theorem Steady.inState (h : Steady s t) (hm : t.setup.groupMark = s.setup.groupMark) (st : TravState) :
    Steady (s.inState st) (t.inState st) := by
  refine ⟨?_, fun m => .inl (hm ▸ m), h.bank⟩
  simp [State.frame, State.inState, h.cur, h.scanNumber, h.pos, h.sinceStd, h.failCount, h.x, h.y, h.tracking,
    h.flying]

/-- A change of state after operations that leave the group-due mark. -/
theorem Steady.thenChangeState (h : Steady s t) (hm : t.setup.groupMark = s.setup.groupMark) (st : TravState) :
    Steady (s.inState st) (changeState st t) :=
  (h.inState hm st).trans (steady_changeState st t)

theorem steady_park (s : State) : Steady (s.inState .parking) (park s) :=
  (Steady.thenIssue (.refl s) .park).thenChangeState rfl .parking

theorem steady_clampDwell (target : MoveTarget) (s : State) : Steady s (clampDwell target s) := by
  cases target
  · exact .refl s
  · exact .refl s
  · exact .of_eq rfl rfl rfl rfl

@[simp] theorem clampDwell_setup (target : MoveTarget) (s : State) : (clampDwell target s).setup = s.setup := by
  cases target <;> rfl

@[simp] theorem clampDwell_mon (target : MoveTarget) (s : State) : (clampDwell target s).mon = s.mon := by
  cases target <;> rfl

theorem steady_enterPositioning (target : MoveTarget) (s : State) :
    Steady (s.inState .positioning) (enterPositioning target s) :=
  (((steady_clampDwell target s).thenIssue _).thenOnTrav _ rfl).thenChangeState
    (congrArg SetupStore.groupMark (clampDwell_setup target s)) .positioning

theorem enterPositioning_mon (target : MoveTarget) (s : State) : (enterPositioning target s).mon = s.mon := by
  simp [enterPositioning]

theorem steady_startStandardization (s : State) :
    ∃ x, Steady (s.inFlight (some x)) (startStandardization s) := by
  have h : Steady s (applyGroup (s.onStd (fun u => { u with retry := none }))) :=
    Steady.thenApplyGroup (.of_eq rfl rfl rfl rfl)
  let x := StdFlight.start 0 0
  have flown (y : StdFlight) : Steady (s.inFlight (some x))
      ((applyGroup (s.onStd (fun u => { u with retry := none }))).onStd (fun u => { u with flight := some y })) := by
    refine ⟨?_, h.mark, h.bank⟩
    simp [State.frame, State.inFlight, h.state, h.cur, h.scanNumber, h.pos, h.sinceStd, h.failCount, h.x, h.y,
      h.tracking]
  exact ⟨x, (flown _).thenIssue _⟩

theorem steady_enterStandardizing (s : State) :
    ∃ x, Steady ((s.inState .standardizing).inFlight (some x)) (enterStandardizing s) := by
  obtain ⟨x, h⟩ := steady_startStandardization
    (changeState .standardizing (s.onTrav (fun t => { t with stdAtPark := false, moveTimer := none })))
  refine ⟨x, .trans ⟨?_, fun m => .inl ?_, ?_⟩ h⟩
  · simp [State.frame, State.inFlight, State.inState]
  · simpa [State.inFlight, State.inState] using m
  · have h0 : Steady s (s.onTrav (fun t => { t with stdAtPark := false, moveTimer := none })) :=
      .of_eq rfl rfl rfl rfl
    exact (h0.thenChangeState rfl .standardizing).bank

/-! ### Scan ends, scan starts and head faults -/

theorem steady_reportScanEnd (code : EndCode) (width : Nat) (s : State) :
    Steady { s with trav := { s.trav with cur := none } } (reportScanEnd code width s) := by
  unfold reportScanEnd
  split
  · rename_i h
    rw [← h]
    exact .refl s
  · have h : ∀ n, Steady { s with trav := { s.trav with cur := none } }
        (notify n (count code.tally 1 (s.onTrav (fun t => { t with cur := none })))) := fun n =>
      ((Steady.of_eq rfl rfl rfl rfl).thenCountOne _).thenNotify n
    dsimp only
    split
    · exact (h _).thenReportComplete _
    · exact h _

theorem steady_endScan (code : EndCode) (s : State) : Steady (droppedScan s) (endScan code s) := by
  unfold endScan
  rw [freeAccumulating_eq]
  exact (steady_reportScanEnd code 0 (gatheringFreed s)).thenApplyScanEnd _

theorem steady_enterFault (keepPark : Bool) (s : State) : Steady (s.inState .fault) (enterFault keepPark s) := by
  have h : Steady s (s.onTrav (fun t => { t with dwell := .empty, atPark := t.atPark && keepPark, stdDue := true })) :=
    .of_eq rfl rfl rfl rfl
  exact h.thenChangeState rfl .fault

/-- R23: what a head fault finds when it enters FAULT: the scan in progress ended. -/
theorem steady_headFaultScan (s : State) :
    Steady { s with trav := { s.trav with cur := none }, edge := (faultedFrame s).edge }
      (if (issue .stop s).trav.cur.isSome then endScan .headFault (issue .stop s) else issue .stop s) := by
  cases h : s.trav.cur with
  | none =>
    have hf : (issue .stop s).trav.cur = none := h
    simp only [hf, faultedFrame, h]
    exact .of_eq (by simp [State.frame, issue, h]) rfl rfl rfl
  | some c =>
    have hf : (issue .stop s).trav.cur = some c := h
    simp only [hf, faultedFrame, h, Option.isSome_some, if_true]
    refine Steady.trans ?_ (steady_endScan .headFault (issue .stop s))
    exact .of_eq rfl rfl rfl rfl

theorem steady_takeHeadFault (s : State) : Steady (faultedFrame s) (takeHeadFault s) := by
  have h := steady_headFaultScan s
  unfold takeHeadFault
  dsimp only
  generalize (if (issue .stop s).trav.cur.isSome then _ else _) = u at h
  refine .trans ?_ (steady_enterFault false (abandonStandardization u))
  unfold abandonStandardization
  by_cases hs : s.trav.state = .standardizing
  · rw [if_pos (h.state.trans hs)]
    refine ⟨?_, by simp [State.inState], h.bank⟩
    simp [State.frame, State.inState, faultedFrame, hs, h.cur, h.scanNumber, h.pos, h.sinceStd, h.failCount, h.x,
      h.y, h.tracking]
  · rw [if_neg fun e => hs (h.state.symm.trans e)]
    refine ⟨?_, fun m => .inl ?_, h.bank⟩
    · simp [State.frame, State.inState, faultedFrame, hs, h.cur, h.scanNumber, h.pos, h.sinceStd, h.failCount, h.x,
        h.y, h.tracking, h.flying]
    · simpa [faultedFrame, hs] using h.mark m

theorem steady_runScan (i : SetId) (dir : Dir) (s : State) : Steady (begunScan i dir s) (runScan i dir s) := by
  unfold runScan
  have h : Steady s (applyAtScanStart s) := (Steady.refl s).thenApplyArmed _ _
  have e : (applyAtScanStart s).edge = s.edge := by
    simp [applyAtScanStart_eq, (onlyNotices_appliedAt [] _ _ s).edge]
  have m : (applyAtScanStart s).setup.groupMark = s.setup.groupMark := by simp [applyAtScanStart_eq]
  generalize applyAtScanStart s = u at h e m
  dsimp only
  refine .trans ?_ (steady_changeState .scanning _)
  refine ⟨?_, fun g => .inl (m ▸ g), h.bank⟩
  cases i <;> simp [State.frame, State.inState, begunScan, issue, claimSet, claimedSet, AccSet.view, EdgeUnit.set,
    h.scanNumber, h.pos, h.sinceStd, h.failCount, h.flying, e]

theorem steady_handOver (i : SetId) (width : Nat) (s : State) :
    Steady (handedScan i s) (reportScanEnd .complete width (handOver i s)) := by
  refine Steady.trans ?_ (steady_reportScanEnd .complete width (handOver i s))
  cases i <;> exact .of_eq rfl rfl rfl rfl

end Sys2Proof.Machine
end

section
/-! ## Proofs: the rules that make every command keep an invariant of the frame -/

namespace Sys2Proof.Machine

variable {s t : State}

/-- R22: the states in which the controller may be found in a break. -/
def TravState.away : TravState → Bool
  | .idle | .parking | .standardizing | .fault => true
  | .positioning | .scanning | .turnWait | .dwelling => false

/-- What is asked of an invariant of the frame so that every command keeps it. `Held` is the invariant itself, but for
the break state; `Rest` says that neither a scan nor a standardization is in progress, whatever the traverse state is
about to become; `Clear`, that the break state lets the head go to scan or dwell; and `Fits`, that a position may be
the current one. -/
structure FrameRules (Held Rest Clear : State → Prop) (Fits : Nat → Prop) : Prop where
  held_steady : ∀ {s t}, Steady s t → Held s → Held t
  rest_steady : ∀ {s t}, Steady s t → s.trav.state ≠ .standardizing ∨ t.setup.groupMark = false → Rest s → Rest t
  clear_permits : ∀ {s : State}, s.permits = true → Clear s
  clear_same : ∀ {s t : State}, t.permits = s.permits → Clear s → Clear t
  rest_held : ∀ {s : State}, Held s → s.trav.state ≠ .scanning → s.trav.state ≠ .standardizing →
    s.trav.state ≠ .fault → Rest s
  moved : ∀ {s : State} {st : TravState}, Rest s → st ≠ .scanning → st ≠ .standardizing → Held (s.inState st)
  flown : ∀ {s : State} (x : StdFlight), Rest s → Held ((s.inState .standardizing).inFlight (some x))
  dropped : ∀ {s : State}, Held s → s.trav.state = .scanning → Rest (droppedScan s)
  stray : ∀ {s : State}, Held s → s.trav.state = .scanning → s.trav.cur = none → Clear s
  faulted : ∀ {s : State}, Held s → Held (faultedFrame s)
  rest_faulted : ∀ {s : State}, Rest s → Held (faultedFrame s)
  begun : ∀ {s : State} {i : SetId} (dir : Dir), Rest s → s.edge.freeSet = some i → s.trav.scanNumber < max32 →
    Held (begunScan i dir s)
  handed : ∀ {s : State} {i : SetId}, Held s → s.trav.state = .scanning →
    s.edge.accumulating = some i → Rest (handedScan i s)
  passed : ∀ {s : State} {i : SetId}, Held s → s.edge.finalizing = some i → Held (passOn i s)
  placed : ∀ {s : State} {p : Nat}, Fits p → Held s → Held (s.setPos p)
  fits : ∀ {p : Nat}, p ≤ maxPos → Fits p
  rest_since : ∀ {s : State} {n : Nat}, n ≤ 255 → Rest s → Rest (s.onTrav (fun t => { t with sinceStd := n }))
  repaired : ∀ {s : State}, Held s → s.trav.state = .fault → Rest (s.onTrav (fun t => { t with failCount := 0 }))
  concluded : ∀ {s : State} {fails since : Nat}, Held s → s.trav.state = .standardizing → fails ≤ 2 →
    since ≤ s.trav.sinceStd → Rest (concludedFrame fails since s)
  failed : ∀ {s : State}, Held s → s.trav.state = .standardizing →
    Held ((concludedFrame (s.trav.failCount + 1) s.trav.sinceStd s).inState .fault)
  slipped : ∀ {s : State}, Held s → Held (markSlipped s)
  reset : ∀ (brk tail : Bool) (lines : PerPort Bool), Held (State.afterReset brk tail lines)

/-- The invariant with its word on the break state: away from the states of R22 the head may scan and dwell. -/
abbrev Sound (Held Clear : State → Prop) (s : State) : Prop := Held s ∧ (s.trav.state.away = false → Clear s)

theorem runScan_mon (i : SetId) (dir : Dir) (s : State) : (runScan i dir s).mon = s.mon := by
  simp [runScan, claimSet, applyAtScanStart_eq, (onlyNotices_appliedAt [] _ _ s).mon]

theorem steady_countComplete (s : State) :
    Steady (s.onTrav (fun t => { t with sinceStd := min (t.sinceStd + 1) 255 })) (countComplete s) :=
  .of_eq rfl rfl rfl rfl

theorem Steady.accumulating (h : Steady s t) : t.edge.accumulating = s.edge.accumulating := by
  simp [EdgeUnit.accumulating, h.xState, h.yState]

namespace FrameRules

variable {Held Rest Clear : State → Prop} {Fits : Nat → Prop} (R : FrameRules Held Rest Clear Fits)
include R

/-! ### Steady operations -/

theorem clear_mon (h : t.mon.state = s.mon.state) (hc : Clear s) : Clear t :=
  R.clear_same (congrArg BreakState.permits h) hc

theorem steady (h : Steady s t) (hm : t.mon.state = s.mon.state) (hs : Sound Held Clear s) : Sound Held Clear t :=
  ⟨R.held_steady h hs.1, fun a => R.clear_mon hm (hs.2 (h.state ▸ a))⟩

theorem steady_permits (h : Steady s t) (hp : t.permits = true) (hs : Held s) : Sound Held Clear t :=
  ⟨R.held_steady h hs, fun _ => R.clear_permits hp⟩

theorem rest_sound (hs : Sound Held Clear s) (ha : s.trav.state ≠ .scanning) (hb : s.trav.state ≠ .standardizing)
    (hc : s.trav.state ≠ .fault) : Rest s := R.rest_held hs.1 ha hb hc

/-! ### Leaving for another traverse state -/

/-- From rest, an operation that is steady but for the new state, in which the head is away or may go on. -/
theorem moves {st : TravState} (h : Steady (s.inState st) t) (hr : Rest s) (ha : st ≠ .scanning)
    (hb : st ≠ .standardizing) (hc : st.away = false → Clear t) : Sound Held Clear t :=
  ⟨R.held_steady h (R.moved hr ha hb), fun a => hc (by rwa [h.state] at a)⟩

theorem changeState (st : TravState) (hr : Rest s) (ha : st ≠ .scanning) (hb : st ≠ .standardizing)
    (hc : st.away = false → Clear s) : Sound Held Clear (changeState st s) :=
  R.moves (steady_changeState st s) hr ha hb fun a => R.clear_mon (by simp) (hc a)

theorem park (hr : Rest s) : Sound Held Clear (park s) :=
  R.moves (steady_park s) hr (by decide) (by decide) (by intro h; cases h)

theorem enterPositioning (target : MoveTarget) (hr : Rest s) (hc : Clear s) :
    Sound Held Clear (enterPositioning target s) :=
  R.moves (steady_enterPositioning target s) hr (by decide) (by decide)
    fun _ => R.clear_mon (by rw [enterPositioning_mon]) hc

theorem enterStandardizing (hr : Rest s) : Sound Held Clear (enterStandardizing s) := by
  obtain ⟨x, h⟩ := steady_enterStandardizing s
  refine ⟨R.held_steady h (R.flown x hr), fun a => ?_⟩
  rw [h.state] at a
  cases a

theorem startStandardization (hr : Rest s) (hs : s.trav.state = .standardizing) :
    Sound Held Clear (startStandardization s) := by
  obtain ⟨x, h⟩ := steady_startStandardization s
  have e : s.inState .standardizing = s := by
    unfold State.inState State.onTrav
    rw [← hs]
  refine ⟨R.held_steady h (e ▸ R.flown x hr), fun a => ?_⟩
  rw [h.state] at a
  simp [State.inFlight, hs, TravState.away] at a

theorem resume (hr : Rest s) : Sound Held Clear (resume s) := by
  have idles := R.changeState .idle hr (by decide) (by decide) (by intro h; cases h)
  unfold Machine.resume
  split
  · rename_i hp
    split
    · exact R.enterPositioning _ hr (R.clear_permits hp)
    · exact R.enterPositioning _ hr (R.clear_permits hp)
    · exact idles
  · exact idles

theorem idleStart (target : MoveTarget) (hr : Rest s) (hc : Clear s) : Sound Held Clear (idleStart target s) := by
  unfold Machine.idleStart
  split
  · exact R.park hr
  · split
    · exact R.enterStandardizing hr
    · exact R.enterPositioning target hr hc

/-! ### Head faults -/

theorem takeHeadFault (h : Held s ∨ Rest s) : Sound Held Clear (takeHeadFault s) := by
  have k := steady_takeHeadFault s
  refine ⟨R.held_steady k (h.elim R.faulted R.rest_faulted), fun a => ?_⟩
  rw [k.state] at a
  cases a

theorem headFault (hs : Sound Held Clear s) : Sound Held Clear (headFault s) := by
  unfold Machine.headFault
  split
  · exact hs
  · split
    · exact R.takeHeadFault (.inl hs.1)
    · exact hs
  · exact R.takeHeadFault (.inl hs.1)

/-! ### Scan starts -/

theorem startScan (dir : Dir) (hr : Rest s) (hc : Clear s) (hi : s.trav.state ≠ .idle)
    (hf : s.trav.state ≠ .fault) : Sound Held Clear (startScan dir s) := by
  unfold Machine.startScan
  split
  · have k : Steady s (s.onTrav (fun t => { t with target := some dir.startPoint })) := .of_eq rfl rfl rfl rfl
    exact R.moves (k.thenChangeState rfl .turnWait) hr (by decide) (by decide) fun _ => R.clear_mon (by simp) hc
  · rename_i i hi'
    split
    · unfold Machine.headFault
      split
      · exact absurd ‹_› hf
      · exact absurd ‹_› hi
      · exact R.takeHeadFault (.inr hr)
    · rename_i hn
      exact ⟨R.held_steady (steady_runScan i dir s) (R.begun dir hr hi' (not_le.1 hn)),
        fun _ => R.clear_mon (by rw [runScan_mon]) hc⟩

/-! ### Arrivals -/

theorem setPos (p : Nat) (hp : Fits p) (hs : Sound Held Clear s) : Sound Held Clear (s.setPos p) :=
  ⟨R.placed hp hs.1, fun a => R.clear_same (s := s) rfl (hs.2 a)⟩

theorem arrivalAtPark (hs : Sound Held Clear s) (hp : s.trav.state = .parking) (hf : Fits s.setup.active.parkPos) :
    Sound Held Clear (arrivalAtPark s) := by
  have parked : Rest (s.onTrav (fun t => { t with
      atPark := true, pos := if s.setup.active.positionMode = .reckoned then s.setup.active.parkPos else t.pos })) := by
    have rests {u : State} (hu : Held u) (e : u.trav.state = .parking) : Rest u :=
      R.rest_held hu (by simp [e]) (by simp [e]) (by simp [e])
    by_cases hm : s.setup.active.positionMode = .reckoned
    · refine R.rest_steady (s := s.setPos s.setup.active.parkPos) (.of_eq ?_ rfl rfl rfl) (.inl (by simp [hp]))
        (rests (R.placed hf hs.1) hp)
      simp [State.frame, hm]
    · refine R.rest_steady (s := s) (.of_eq ?_ rfl rfl rfl) (.inl (by simp [hp])) (rests hs.1 hp)
      simp [State.frame, hm]
  unfold Machine.arrivalAtPark
  extract_lets a u
  split
  · exact R.enterStandardizing parked
  · exact R.resume parked

theorem arrivalAtTarget (hs : Sound Held Clear s) (hp : s.trav.state = .positioning) :
    Sound Held Clear (arrivalAtTarget s) := by
  have hr : Rest s := R.rest_sound hs (by simp [hp]) (by simp [hp]) (by simp [hp])
  have hc : Clear s := hs.2 (by rw [hp]; rfl)
  unfold Machine.arrivalAtTarget
  split
  · split
    · exact R.startScan .fwd hr hc (by simp [hp]) (by simp [hp])
    · split
      · exact R.startScan .rev hr hc (by simp [hp]) (by simp [hp])
      · exact R.enterPositioning _ hr hc
  · split
    · have k : Steady s (s.onTrav (fun v => { v with dwell := .empty })) := .of_eq rfl rfl rfl rfl
      exact R.moves (k.thenChangeState rfl .dwelling) hr (by decide) (by decide) fun _ => R.clear_mon (by simp) hc
    · exact R.enterPositioning _ hr hc
  · exact hs

/-! ### Scan ends -/

theorem endScan (code : EndCode) (h : Held s) (hs : s.trav.state = .scanning) : Rest (endScan code s) :=
  R.rest_steady (steady_endScan code s) (.inl (by simp [droppedScan, hs])) (R.dropped h hs)

theorem afterComplete (dir : Dir) (hr : Rest s) (hs : s.trav.state = .scanning) :
    Sound Held Clear (afterComplete dir s) := by
  unfold Machine.afterComplete
  split
  · exact R.park hr
  · rename_i hp
    split
    · exact R.park hr
    · exact R.startScan _ hr (R.clear_permits (by simpa using hp)) (by simp [hs]) (by simp [hs])

theorem endComplete (i : SetId) (c : CurScan) (e : ScanEdges) (h : Held s) (hs : s.trav.state = .scanning)
    (hi : s.edge.accumulating = some i) : Sound Held Clear (endComplete i c e s) := by
  have mapped : Steady s (if (s.edge.get i).slipped then s.onSet i (fun a => { a with edges := some e })
      else updateMapping e (s.edge.get i).snap (s.edge.get i).scan (s.onSet i (fun a => { a with edges := some e }))) := by
    have k : Steady s (s.onSet i (fun a => { a with edges := some e })) := (Steady.refl s).thenOnSet i _ rfl
    split
    · exact k
    · exact k.thenUpdateMapping _ _ _
  unfold Machine.endComplete completeSet
  dsimp only
  generalize (if (s.edge.get i).slipped then _ else _) = u at mapped
  have handed := R.handed (R.held_steady mapped h) (mapped.state.trans hs) (mapped.accumulating.trans hi)
  have k := steady_handOver i e.width u
  have hu : (reportScanEnd .complete e.width (handOver i u)).trav.state = .scanning :=
    k.state.trans (mapped.state.trans hs)
  have reported := R.rest_steady k (.inl (by simp [handedScan, mapped.state, hs])) handed
  generalize reportScanEnd .complete e.width (handOver i u) = v at hu reported
  have counted := R.rest_steady (steady_countComplete v) (.inl (by simp [hu]))
    (R.rest_since (Nat.min_le_right (v.trav.sinceStd + 1) 255) reported)
  have hv : (countComplete v).trav.state = .scanning := hu
  refine R.afterComplete c.dir (R.rest_steady ((Steady.refl _).thenApplyScanEnd _) (.inl (by simp [hv])) counted) ?_
  exact ((Steady.refl _).thenApplyScanEnd _).state.trans hv

theorem endNoSheet (c : CurScan) (h : Held s) (hs : s.trav.state = .scanning) :
    Sound Held Clear (endNoSheet c s) := by
  have k : Steady s (breakCause .noSheet c.number none s) := (Steady.refl s).thenBreakCause _ _ _
  have hb := R.held_steady k h
  unfold Machine.endNoSheet
  dsimp only
  generalize breakCause .noSheet c.number none s = u at k hb
  refine R.park (R.rest_steady ?_ ?_ (R.dropped hb (k.state.trans hs)))
  · rw [freeAccumulating_eq]
    exact (steady_reportScanEnd .broken 0 (gatheringFreed u)).thenApplyScanEnd _
  · exact .inl (by simp [droppedScan, k.state, hs])

theorem scanEndEvent (hs : Sound Held Clear s) (hp : s.trav.state = .scanning) :
    Sound Held Clear (scanEndEvent s) := by
  unfold Machine.scanEndEvent
  split
  · rename_i i k c hi _ _
    split
    · exact R.endComplete i c _ hs.1 hp hi
    · exact R.endNoSheet c hs.1 hp
  · exact hs

/-! ### What the break monitor tells the controller -/

theorem traverseBreak (h : Held s) : Sound Held Clear (traverseBreak s) := by
  unfold Machine.traverseBreak
  split
  · rename_i hs
    split
    · exact R.park (R.endScan .broken h hs)
    · rename_i hc
      exact ⟨h, fun _ => R.stray h hs (by simpa using hc)⟩
  · rename_i hs
    exact R.park (R.rest_held h (by simp [hs]) (by simp [hs]) (by simp [hs]))
  · rename_i hs
    exact R.park (R.rest_held h (by simp [hs]) (by simp [hs]) (by simp [hs]))
  · rename_i hs
    refine R.park (R.rest_steady (s := s) (.of_eq rfl rfl rfl rfl) (.inl (by simp [hs])) ?_)
    exact R.rest_held h (by simp [hs]) (by simp [hs]) (by simp [hs])
  · refine ⟨h, fun a => ?_⟩
    cases hs : s.trav.state <;> simp_all [TravState.away]

theorem traverseRecovered (hs : Sound Held Clear s) (hp : s.permits = true) :
    Sound Held Clear (traverseRecovered s) := by
  have rests (e : s.trav.state = .idle) : Rest s := R.rest_sound hs (by simp [e]) (by simp [e]) (by simp [e])
  unfold Machine.traverseRecovered
  split
  · exact R.idleStart _ (rests ‹_›) (R.clear_permits hp)
  · exact R.idleStart _ (rests ‹_›) (R.clear_permits hp)
  · exact hs

theorem takeCause (cause : Cause) (scan : Nat) (pos : Option Nat) (hs : Sound Held Clear s) :
    Sound Held Clear (takeCause cause scan pos s) := by
  unfold Machine.takeCause
  by_cases hp : s.permits = true
  · rw [if_pos hp]
    exact R.traverseBreak (R.held_steady ((Steady.refl s).thenBreakCause cause scan pos) hs.1)
  · rw [if_neg hp]
    have e : breakCause cause scan pos s = s := by
      unfold breakCause
      cases k : s.mon.state <;> simp_all [State.permits, BreakState.permits]
    rw [e]
    exact hs

theorem lineEdge (l : Line) (hs : Sound Held Clear s) : Sound Held Clear (lineEdge l s) := by
  unfold Machine.lineEdge edgeEffect
  cases edgeEvent l s with
  | broke => exact R.traverseBreak (R.held_steady ((Steady.refl s).thenBreakCause _ _ _) hs.1)
  | recovered =>
    have hp : (enterRecovery .tail s).permits = true := by simp [enterRecovery, State.permits, BreakState.permits]
    exact R.traverseRecovered (R.steady_permits ((Steady.refl s).thenEnterRecovery _) hp hs.1) hp
  | quiet =>
    dsimp only [tellTraverse]
    split
    · rename_i h
      refine ⟨R.held_steady (Steady.refl s).thenEnterThreading hs.1, fun a => ?_⟩
      have hp : (enterThreading s).permits = s.permits := by
        simp [enterThreading, State.permits, BreakState.permits, h.2.2]
      exact R.clear_same hp (hs.2 (by simpa [enterThreading] using a))
    · exact hs

theorem enableAtCommit (l : Line) (old : Setup) (hs : Sound Held Clear s) :
    Sound Held Clear (enableAtCommit l old s) := by
  have reset : Sound Held Clear (resetLine l old s) :=
    R.steady ((Steady.refl s).thenResetLine l old) (by unfold resetLine; split <;> simp) hs
  unfold Machine.enableAtCommit
  dsimp only
  split
  · split
    · exact R.lineEdge l (R.steady ((Steady.refl _).thenTakeLevel l) (by simp [takeLevel]) reset)
    · exact R.steady ((Steady.refl _).thenCompareLevel l) (by simp [compareLevel]) reset
  · exact reset

end FrameRules

end Sys2Proof.Machine
end

section
/-! ## Proofs: every event of the frame keeps its invariants -/

namespace Sys2Proof.Machine

variable {s t : State}

/-! ### Fields that the events leave -/

@[simp] theorem applyValues_mon (l : List (Item × SetupValue)) (point : ApplyPoint) (s : State) :
    (applyValues l point s).mon = s.mon := by
  unfold applyValues
  split <;> simp

@[simp] theorem testGroup_mon (was : Bool) (s : State) : (testGroup was s).mon = s.mon := by
  unfold testGroup
  split
  · split <;> simp
  · rfl

@[simp] theorem notifySuperseded_mon (armed : List Armed) (l : List Staged) (p : PortId) (target : Target) (q : PortId)
    (s : State) : (notifySuperseded armed l p target q s).mon = s.mon := by
  unfold notifySuperseded
  dsimp only
  split <;> simp

theorem commitTaken_mon (p : PortId) (target : Target) (s : State) : (commitTaken p target s).mon = s.mon := by
  unfold commitTaken
  dsimp only
  split <;> simp

/-! ### The standardization unit -/

/-- The same alarm list put in both states. -/
theorem OnlyNotices.onAlarmList {ids : List TallyId} (h : OnlyNotices ids s t) (l : AlarmList) :
    OnlyNotices ids { s with alarms := l } { t with alarms := l } :=
  ⟨h.link, h.trav, h.std, h.edge, h.ring, h.mon, rfl, h.setup, h.carriageTx, h.freeCount, h.pending, h.ports, h.tallies⟩

/-- R35, R36, R39: everything the report of a result does outside the alarm list. -/
theorem onlyNotices_reportResult (r : StdRecord) (s : State) :
    OnlyNotices [.stdFailures] { s with alarms := (reportResult r s).alarms } (reportResult r s) := by
  have h : OnlyNotices [.stdFailures] s (if r.result.accepted then s else count .stdFailures 1 s) := by
    split
    · exact .refl _ s
    · exact onlyNotices_count _ 1 s
  unfold reportResult
  dsimp only
  generalize (if r.result.accepted then s else _) = u at h
  cases r.result
  case pass => exact (h.onAlarmList _).trans (by simpa using onlyNotices_notify _ _ u)
  all_goals
    refine ((h.onAlarmList _).trans ?_).trans (onlyNotices_notify _ _ _)
    simpa using onlyNotices_raiseAlarm _ _ _ _ _ u

theorem steady_reportResult (r : StdRecord) (s : State) : Steady s (reportResult r s) := by
  have h : Steady s (if r.result.accepted then s else count .stdFailures 1 s) := by
    split
    · exact .refl s
    · exact (Steady.refl s).thenCountOne _
  unfold reportResult
  dsimp only
  generalize (if r.result.accepted then s else _) = u at h
  cases r.result
  case pass => exact h.thenNotify _
  all_goals exact (h.thenRaiseAlarm _ _ _ _).thenNotify _

/-- R153: acting on the group-due mark clears it. -/
theorem actOnGroupMark_eq (s : State) :
    actOnGroupMark s = { s with
      setup := { s.setup with groupMark := false }
      trav := { s.trav with stdDue := s.trav.stdDue || s.setup.groupMark } } := by
  obtain ⟨link, trav, std, edge, ring, mon, alarms, ⟨active, armed, staging, generation, mark⟩, ports, tallies, tx,
    free, pending⟩ := s
  cases mark <;> simp [actOnGroupMark, State.onSetup, State.onTrav]

/-- R32 to R36: the record a standardization makes. -/
def recordOf (x : StdFlight) (s : State) : StdRecord :=
  makeRecord x s.std.current s.std.nextNumber s.trav.scanNumber

/-- R32 to R36: the state in which the result of a standardization is reported: STOP sent, the record made and taken
by the unit. -/
def resultTaken (x : StdFlight) (s : State) : State :=
  let u := (issue .stop s).onStd (fun u => { u with nextNumber := nextRecordNumber u.nextNumber })
  if (recordOf x s).result.accepted then acceptRecord (recordOf x s) u else failRecord (recordOf x s) u

theorem concludeStandardization_eq (x : StdFlight) (s : State) :
    concludeStandardization x s = actOnGroupMark (reportResult (recordOf x s) (resultTaken x s)) := rfl

/-- What a result does to the frame: the counts, the flight and the group-due mark. -/
theorem steady_concludeStandardization (x : StdFlight) (s : State) :
    Steady
      (if (recordOf x s).result.accepted then concludedFrame 0 0 s
        else concludedFrame (s.trav.failCount + 1) s.trav.sinceStd s)
      (concludeStandardization x s) := by
  have h := steady_reportResult (recordOf x s) (resultTaken x s)
  rw [concludeStandardization_eq, actOnGroupMark_eq]
  generalize reportResult (recordOf x s) (resultTaken x s) = u at h
  refine ⟨.trans (b := u.frame) rfl (h.frame.trans ?_), (by intro m; cases m), fun b => h.bank ?_⟩
  · unfold resultTaken
    dsimp only
    split <;> rfl
  · unfold resultTaken
    dsimp only
    split <;> rename_i ha <;> simp only [ha] at b <;> exact b

theorem concludeStandardization_std (x : StdFlight) (s : State) :
    (concludeStandardization x s).std = (resultTaken x s).std := by
  rw [concludeStandardization_eq, actOnGroupMark_eq]
  exact (onlyNotices_reportResult _ _).std

theorem concludeStandardization_groupMark (x : StdFlight) (s : State) :
    (concludeStandardization x s).setup.groupMark = false := by
  rw [concludeStandardization_eq, actOnGroupMark_eq]

/-- R13: the controller takes the result that the unit has just made. -/
theorem takeResult_concludeStandardization (x : StdFlight) (s : State) :
    takeResult (concludeStandardization x s) =
      if (recordOf x s).result.accepted then resume (concludeStandardization x s)
      else afterFailure (concludeStandardization x s) := by
  have h : (concludeStandardization x s).std.lastResult = some ((recordOf x s).number, (recordOf x s).result) := by
    rw [concludeStandardization_std]
    unfold resultTaken
    dsimp only
    split <;> rfl
  unfold takeResult
  rw [h]

/-! ### Samples and finalizations -/

/-- R6: the mark a sample is checked against is one of the two index positions. -/
theorem markOf_eq {f : SampleFrame} {a : Setup} {p mark : Nat} (h : markOf f a p = some mark) :
    mark = a.indexF ∨ mark = a.indexD := by
  unfold markOf at h
  split at h
  · split at h
    · split at h <;> simp_all
    · simp_all
  · split at h <;> simp_all

theorem reckoned_le (f : SampleFrame) (s : State) : reckoned f s ≤ maxPos := by
  unfold reckoned
  split
  · exact Nat.min_le_right _ _
  · exact Nat.min_le_right _ _

theorem markSlipped_mon (s : State) : (markSlipped s).mon = s.mon := by
  unfold markSlipped
  split
  · dsimp only
    split <;> simp
  · rfl

theorem markSlipped_state (s : State) : (markSlipped s).trav.state = s.trav.state := by
  unfold markSlipped
  split
  · dsimp only
    split <;> simp
  · rfl

theorem binStage_mon (i : SetId) (k : Tracker) (c : Converted) (s : State) : (binStage i k c s).mon = s.mon := by
  unfold binStage
  split
  · simp
  · split
    · simp
    · simp [addToBin]

theorem sheetSample_mon (i : SetId) (k : Tracker) (c : Converted) (s : State) :
    (sheetSample i k c s).mon = s.mon := by
  unfold sheetSample
  dsimp only
  rw [binStage_mon]
  split <;> simp

theorem passOn_mon (i : SetId) (s : State) : (passOn i s).mon = s.mon := by
  unfold passOn
  dsimp only
  split <;> simp

theorem passOn_trav (i : SetId) (s : State) : (passOn i s).trav = s.trav := by
  unfold passOn
  dsimp only
  split <;> simp

namespace FrameRules

variable {Held Rest Clear : State → Prop} {Fits : Nat → Prop} (R : FrameRules Held Rest Clear Fits)
include R

/-! ### Standardizations -/

theorem takeResult (x : StdFlight) (h : Held s) (hs : s.trav.state = .standardizing) :
    Sound Held Clear (takeResult (concludeStandardization x s)) := by
  have k := steady_concludeStandardization x s
  have m := concludeStandardization_groupMark x s
  rw [takeResult_concludeStandardization]
  generalize concludeStandardization x s = u at k m
  -- the group-due mark is clear, so that rest passes on though the state is STANDARDIZING
  have rests {fails since : Nat} (k : Steady (concludedFrame fails since s) u) (hf : fails ≤ 2)
      (hn : since ≤ s.trav.sinceStd) : Rest u := R.rest_steady k (.inr m) (R.concluded h hs hf hn)
  split
  · rename_i ha
    rw [if_pos ha] at k
    exact R.resume (rests k (by omega) (by omega))
  · rename_i ha
    rw [if_neg ha] at k
    have hf : u.trav.failCount = s.trav.failCount + 1 := k.failCount
    unfold afterFailure
    split
    · have faulted := ((k.thenIssue .stop).inState m .fault).trans (steady_enterFault true (issue .stop u))
      refine ⟨R.held_steady faulted (R.failed h hs), fun a => ?_⟩
      rw [faulted.state] at a
      cases a
    · have hr := rests k (by omega) le_rfl
      split
      · exact R.startStandardization hr (k.state.trans hs)
      · exact R.resume hr

theorem stdSample (f : SampleFrame) (hs : Sound Held Clear s) (hp : s.trav.state = .standardizing) :
    Sound Held Clear (stdSample f s) := by
  have flies (x y : StdFlight) (hx : s.std.flight = some x) :
      Steady s (s.onStd (fun u => { u with flight := some y })) :=
    .of_eq (by simp [State.frame, hx]) rfl rfl rfl
  unfold Machine.stdSample
  split
  · rename_i x hx
    unfold stdAdvance
    split
    · split
      · exact R.steady ((flies x _ hx).thenIssue _) (by simp) hs
      · exact R.takeResult _ hs.1 hp
    · exact R.steady (flies x _ hx) rfl hs
  · exact hs

/-! ### Samples -/

theorem markSlipped (hs : Sound Held Clear s) : Sound Held Clear (markSlipped s) :=
  ⟨R.slipped hs.1, fun a => R.clear_mon (by rw [markSlipped_mon]) (hs.2 (markSlipped_state s ▸ a))⟩

theorem checkMark (mark p : Nat) (hm : Fits mark) (hs : Sound Held Clear s) : Sound Held Clear (checkMark mark p s) := by
  have moved : Sound Held Clear (if s.setup.active.positionMode = .reckoned then s.setPos mark else s) := by
    split
    · exact R.setPos mark hm hs
    · exact hs
  unfold Machine.checkMark
  dsimp only
  generalize (if s.setup.active.positionMode = .reckoned then _ else _) = u at moved
  split
  · exact moved
  · exact R.markSlipped (R.steady (((Steady.refl u).thenCountOne _).thenRaiseAlarm _ _ _ _) (by simp) moved)

theorem reckon (f : SampleFrame) (hF : Fits s.setup.active.indexF) (hD : Fits s.setup.active.indexD)
    (hs : Sound Held Clear s) : Sound Held Clear (reckon f s) := by
  have moved := R.setPos _ (R.fits (reckoned_le f s)) hs
  unfold Machine.reckon
  dsimp only
  split
  · rename_i mark hm
    refine R.checkMark mark _ ?_ moved
    rcases markOf_eq hm with rfl | rfl
    · exact hF
    · exact hD
  · exact moved

theorem scanSample (f : SampleFrame) (hs : Sound Held Clear s) : Sound Held Clear (scanSample f s) := by
  unfold Machine.scanSample
  split
  · rename_i i k _ hk
    have tracking : s.edge.tracker.isSome = true := by simp [hk]
    split
    · exact R.steady ((Steady.refl s).thenCountOne _) (by simp) hs
    · rename_i c _
      have tracked := R.steady ((Steady.refl s).thenAirTracked tracking i k c) rfl hs
      split
      · unfold airSampleStep
        split
        · exact R.takeCause _ _ _ tracked
        · exact tracked
      · exact R.steady ((Steady.refl s).thenSheetSample tracking i k c) (by rw [sheetSample_mon]) hs
  · exact hs

theorem dwellSample (f : SampleFrame) (hs : Sound Held Clear s) : Sound Held Clear (dwellSample f s) := by
  have dwelt (d : DwellAcc) : Steady s (s.setDwell d) := .of_eq rfl rfl rfl rfl
  unfold Machine.dwellSample
  split
  · exact R.steady ((Steady.refl s).thenCountOne _) (by simp) hs
  · split
    · unfold dwellAir
      dsimp only
      split
      · exact R.takeCause _ _ _ (R.steady (dwelt _) rfl hs)
      · exact R.steady (dwelt _) rfl hs
    · unfold dwellSheet
      dsimp only
      split
      · exact R.steady ((dwelt _).thenNotify _) (by simp) hs
      · exact R.steady (dwelt _) rfl hs

theorem sampleRecord (f : SampleFrame) (hF : Fits s.setup.active.indexF) (hD : Fits s.setup.active.indexD)
    (hs : Sound Held Clear s) : Sound Held Clear (sampleRecord f s) := by
  have seen : Steady s (frameSeen s) := .of_eq rfl rfl rfl rfl
  have checked : Steady s (takeSeq f (frameSeen s)) ∧ (takeSeq f (frameSeen s)).mon = s.mon ∧
      (takeSeq f (frameSeen s)).setup = s.setup := by
    have link : Steady s ((frameSeen s).onLink (fun l => { l with lastSeq := some f.seq })) := seen.thenOnLink _
    unfold takeSeq
    dsimp only
    split
    · exact ⟨link, rfl, rfl⟩
    · refine ⟨link.thenCount _ _ ?_, by simp [frameSeen], by simp [frameSeen]⟩
      cases (frameSeen s).link.lastSeq with
      | none => simp
      | some last =>
        have := (f.seq - last - 1).isLt
        simp only [Option.map_some, Option.getD_some, missing, max32]
        omega
  unfold Machine.sampleRecord
  dsimp only
  split
  · exact R.steady seen rfl hs
  · obtain ⟨k, hm, hset⟩ := checked
    have reckoned := R.reckon f (hset ▸ hF) (hset ▸ hD) (R.steady k (by rw [hm]) hs)
    unfold deliver
    split
    · exact R.scanSample f reckoned
    · exact R.stdSample f reckoned ‹_›
    · exact R.dwellSample f reckoned
    all_goals exact reckoned

/-! ### Arrivals, finalizations and the machine lines -/

theorem noteArrival (pos : BitVec 16) (hs : Sound Held Clear s) : Sound Held Clear (noteArrival pos s) := by
  unfold Machine.noteArrival
  by_cases hm : s.setup.active.positionMode = .encoder
  · refine R.steady (s := s.setPos (encoderPos pos)) (.of_eq ?_ rfl rfl rfl) rfl
      (R.setPos _ (R.fits (Nat.min_le_right _ _)) hs)
    simp [State.frame, hm]
  · refine R.steady (s := s) (.of_eq ?_ rfl rfl rfl) rfl hs
    simp [State.frame, hm]

theorem arrival (hs : Sound Held Clear s) (hf : Fits s.setup.active.parkPos) : Sound Held Clear (arrival s) := by
  unfold Machine.arrival
  split
  · exact R.arrivalAtPark hs ‹_› hf
  · exact R.arrivalAtTarget hs ‹_›
  · exact R.scanEndEvent hs ‹_›
  · exact hs

theorem finalizeSet (i : SetId) (hi : s.edge.finalizing = some i) (hs : Sound Held Clear s) :
    Sound Held Clear (finalizeSet i s) := by
  unfold Machine.finalizeSet
  dsimp only
  generalize formEntry _ _ _ = e
  have added : Sound Held Clear { s with ring := s.ring.add e } := R.steady (s := s) (.of_eq rfl rfl rfl rfl) rfl hs
  have passed : Sound Held Clear (passOn i { s with ring := s.ring.add e }) := by
    refine ⟨R.passed added.1 hi, fun a => R.clear_mon ?_ (added.2 ?_)⟩
    · rw [passOn_mon]
    · rwa [passOn_trav] at a
  generalize passOn i { s with ring := s.ring.add e } = u at passed
  have started : Sound Held Clear (if u.trav.state = .turnWait then Machine.startScan (turnWaitDir u) u else u) := by
    split
    · rename_i h
      exact R.startScan _ (R.rest_sound passed (by simp [h]) (by simp [h]) (by simp [h]))
        (passed.2 (by rw [h]; rfl)) (by simp [h]) (by simp [h])
    · exact passed
  exact R.steady ((Steady.refl _).thenNotify _) (by simp) started

theorem lineChange (l : Line) (level : Bool) (hs : Sound Held Clear s) : Sound Held Clear (lineChange l level s) := by
  have seen : Sound Held Clear (s.onLine l (fun v => { v with level := level })) :=
    R.steady ((Steady.refl s).thenOnLine _ _) (by simp) hs
  unfold Machine.lineChange
  dsimp only
  split
  · exact seen
  · split
    · exact R.lineEdge l (R.steady ((Steady.refl _).thenTakeLevel l) (by simp [takeLevel]) seen)
    · exact R.steady ((Steady.refl _).thenCompareLevel l) (by simp [compareLevel]) seen

theorem debounced (l : Line) (hs : Sound Held Clear s) : Sound Held Clear (debounced l s) := by
  have taken : Sound Held Clear (takeLevel l s) := R.steady ((Steady.refl s).thenTakeLevel l) (by simp [takeLevel]) hs
  unfold Machine.debounced
  split
  · exact taken
  · exact R.lineEdge l taken

end FrameRules

end Sys2Proof.Machine
end

section
/-! ## Proofs: requests, ports and whole steps keep the invariants of the frame -/

namespace Sys2Proof.Machine

variable {s t : State}

/-! ### Ports and tallies -/

theorem Steady.thenFlags (h : Steady s t) (f : Traverse → Traverse) (hf : ∀ v : Traverse,
    (f v).state = v.state ∧ (f v).cur = v.cur ∧ (f v).scanNumber = v.scanNumber ∧ (f v).pos = v.pos ∧
      (f v).sinceStd = v.sinceStd ∧ (f v).failCount = v.failCount) : Steady s (t.onTrav f) := by
  obtain ⟨h1, h2, h3, h4, h5, h6⟩ := hf t.trav
  exact h.thenOnTrav f (by simp [State.frame, h1, h2, h3, h4, h5, h6])

theorem portSound_releaseHold (q : Port) (h : PortSound q) : PortSound q.releaseHold := by
  unfold Port.releaseHold
  split <;> exact h

theorem portSound_holdAtArrival (a : Setup) (q : Port) (h : PortSound q) : PortSound (q.holdAtArrival a) := by
  unfold Port.holdAtArrival
  split <;> exact h

theorem portSound_renewHold (a : Setup) (q : Port) (h : PortSound q) : PortSound (q.renewHold a) := by
  unfold Port.renewHold
  split <;> exact h

theorem portSound_masterExpires (q : Port) (h : PortSound q) : PortSound q.masterExpires := by
  unfold Port.masterExpires
  split <;> exact h

theorem portSound_inbound (q : Port) (l : List Queued) (hl : l.length ≤ 8) (h : PortSound q) :
    PortSound { q with inbound := l } := ⟨hl, h.2⟩

/-- R167: the frame just sent leaves its list, and the sender is free. -/
theorem portSound_sent (x : Sending) (q : Port) (hx : q.sending = some x) (h : PortSound q) :
    PortSound { q.sent x with sending := none } := by
  obtain ⟨hin, href, hlen, hready⟩ := h
  have free (r : Port) : ({ r with sending := none } : Port).unbegun = r.notices := rfl
  have begun (hs : x.source ≠ .notice) : q.unbegun = q.notices := by
    simp [Port.unbegun, Port.sendingNotice, hx, hs]
  unfold Port.sent
  split
  case h_5 hs =>
    have e : q.unbegun = q.notices.drop 1 := by simp [Port.unbegun, Port.sendingNotice, hx, hs]
    refine ⟨hin, href, ?_, ?_⟩
    · simpa [Port.noticeSent] using hlen.trans (by omega)
    · rw [free]
      rw [e] at hready
      exact hready
  case h_4 hs =>
    have e : q.engineSent.notices = q.notices ∧ q.engineSent.inbound = q.inbound ∧
        q.engineSent.refusals = q.refusals := by
      unfold Port.engineSent
      split <;> exact ⟨rfl, rfl, rfl⟩
    rw [begun (by simp [hs])] at hready
    rw [PortSound, free, e.1, e.2.1, e.2.2]
    exact ⟨hin, href, hlen, hready⟩
  case h_3 hs =>
    rw [begun (by simp [hs])] at hready
    exact ⟨hin, by simpa using href.trans (by omega), hlen, hready⟩
  all_goals
    rename_i hs
    rw [begun (by simp [hs])] at hready
    exact ⟨hin, href, hlen, hready⟩

theorem portSound_resetState (answer : Option (BitVec 8)) (sending : Option Sending) (q : Port) :
    PortSound (q.resetState answer sending) := by
  have e : (q.resetState answer sending).unbegun = [] := by
    unfold Port.unbegun
    split <;> rfl
  refine ⟨Nat.zero_le _, Nat.zero_le _, Nat.zero_le _, ?_⟩
  rw [e]
  exact Nat.zero_le _

theorem Steady.thenReleasePin (h : Steady s t) (p : PortId) : Steady s (releasePin p t) :=
  h.trans (.of_eq rfl rfl rfl rfl)

theorem Steady.thenResetPort (h : Steady s t) (p : PortId) (answer : Option (BitVec 8)) (sending : Option Sending) :
    Steady s (resetPort p answer sending t) :=
  (((h.thenOnPort p _ fun _ => portSound_resetState answer sending _).thenReleasePin p).thenOnSetup _ rfl).thenOnAlarms _

theorem readTallies_le (mode : TallyMode) (clear : Bool) (ids : List TallyId) (b : TallyBank)
    (h : ∀ id, (b.get id).value ≤ max32) (id : TallyId) :
    ((ids.foldl (fun b id => b.set id (readTally mode clear (b.get id))) b).get id).value ≤ max32 := by
  induction ids generalizing b with
  | nil => exact h id
  | cons first rest ih =>
    refine ih _ fun other => ?_
    by_cases e : other = first
    · subst e
      rw [TallyBank.get_set_self]
      unfold readTally
      dsimp only
      split
      · simp
      · exact h other
    · rw [TallyBank.get_set_other _ _ _ _ e]
      exact h other

theorem steady_takeReadTallies (mask : BitVec 16) (clear : Bool) (s : State) :
    Steady s (takeReadTallies mask clear s).1 := by
  unfold takeReadTallies
  dsimp only
  split
  · exact .refl s
  · refine ⟨rfl, .inl, fun b => ⟨b.1, (talliesInRange_iff _).2 fun id => ?_⟩⟩
    exact readTallies_le _ _ _ _ ((talliesInRange_iff s).1 b.2) id

theorem steady_takeClearTallies (s : State) : Steady s (takeClearTallies s).1 := by
  refine ⟨rfl, .inl, fun b => ⟨b.1, (talliesInRange_iff _).2 fun id => ?_⟩⟩
  cases id <;> exact Nat.zero_le _

namespace FrameRules

variable {Held Rest Clear : State → Prop} {Fits : Nat → Prop} (R : FrameRules Held Rest Clear Fits)
include R

/-! ### Requests -/

theorem startEffect (hs : Sound Held Clear s) : Sound Held Clear (startEffect s) := by
  have rests (ha : s.trav.state ≠ .scanning) (hb : s.trav.state ≠ .standardizing) (hc : s.trav.state ≠ .fault) :=
    R.rest_sound hs ha hb hc
  unfold Machine.startEffect
  split
  · rename_i h
    split
    · exact R.idleStart _ (rests (by simp [h]) (by simp [h]) (by simp [h])) (R.clear_permits ‹_›)
    · exact hs
  · rename_i h
    have emptied : Sound Held Clear (s.setDwell DwellAcc.empty) := R.steady (s := s) (.of_eq rfl rfl rfl rfl) rfl hs
    exact R.enterPositioning _ (R.rest_sound emptied (by simp [h]) (by simp [h]) (by simp [h]))
      (emptied.2 (by simp [h, TravState.away]))
  · exact hs

theorem stopEffect (hs : Sound Held Clear s) : Sound Held Clear (stopEffect s) := by
  have rests (ha : s.trav.state ≠ .scanning) (hb : s.trav.state ≠ .standardizing) (hc : s.trav.state ≠ .fault) :=
    R.rest_sound hs ha hb hc
  unfold Machine.stopEffect
  split
  · exact R.park (R.endScan .stopped hs.1 ‹_›)
  · rename_i h
    exact R.park (rests (by simp [h]) (by simp [h]) (by simp [h]))
  · rename_i h
    exact R.park (rests (by simp [h]) (by simp [h]) (by simp [h]))
  · rename_i h
    refine R.park (R.rest_steady (s := s) (.of_eq rfl rfl rfl rfl) (.inl (by simp [h])) ?_)
    exact rests (by simp [h]) (by simp [h]) (by simp [h])
  · exact hs

theorem dwellEffect (same : Bool) (hs : Sound Held Clear s) : Sound Held Clear (dwellEffect same s) := by
  have rests (ha : s.trav.state ≠ .scanning) (hb : s.trav.state ≠ .standardizing) (hc : s.trav.state ≠ .fault) :=
    R.rest_sound hs ha hb hc
  unfold Machine.dwellEffect
  split
  · rename_i h
    split
    · exact R.idleStart _ (rests (by simp [h]) (by simp [h]) (by simp [h])) (R.clear_permits ‹_›)
    · exact hs
  · rename_i h
    have ended := R.endScan .stopped hs.1 h
    dsimp only
    split
    · exact R.enterPositioning _ ended (R.clear_permits ‹_›)
    · exact R.park ended
  · rename_i h
    exact R.enterPositioning _ (rests (by simp [h]) (by simp [h]) (by simp [h])) (hs.2 (by rw [h]; rfl))
  · rename_i h
    exact R.enterPositioning _ (rests (by simp [h]) (by simp [h]) (by simp [h])) (hs.2 (by rw [h]; rfl))
  · rename_i h
    split
    · exact hs
    · have emptied : Sound Held Clear (s.setDwell DwellAcc.empty) := R.steady (s := s) (.of_eq rfl rfl rfl rfl) rfl hs
      exact R.enterPositioning _ (R.rest_sound emptied (by simp [h]) (by simp [h]) (by simp [h]))
        (emptied.2 (by simp [h, TravState.away]))
  · exact hs

theorem standardizeEffect (hs : Sound Held Clear s) : Sound Held Clear (standardizeEffect s) := by
  unfold Machine.standardizeEffect
  split
  · rename_i h
    have hr : Rest s := R.rest_sound hs (by simp [h]) (by simp [h]) (by simp [h])
    split
    · exact R.enterStandardizing hr
    · exact R.park hr
  · exact hs

theorem takeResumeSheet (hs : Sound Held Clear s) : Sound Held Clear (takeResumeSheet s).1 := by
  have hp : (enterRecovery .resume s).permits = true := by simp [enterRecovery, State.permits, BreakState.permits]
  unfold Machine.takeResumeSheet
  split
  · exact hs
  · split
    · exact hs
    · exact R.traverseRecovered (R.steady_permits ((Steady.refl s).thenEnterRecovery _) hp hs.1) hp

theorem takeCommitSetup (p : PortId) (target : Target) (hs : Sound Held Clear s) :
    Sound Held Clear (takeCommitSetup p target s).1 := by
  unfold Machine.takeCommitSetup
  dsimp only
  split
  · exact hs
  · split
    · exact hs
    · split
      · exact hs
      · exact R.enableAtCommit _ _ (R.enableAtCommit _ _
          (R.steady ((Steady.refl s).thenCommitTaken p target) (by rw [commitTaken_mon]) hs))

/-- R165: carrying out a request keeps the invariant. -/
theorem carryOut (p : PortId) (tag : BitVec 8) (r : Request) (hs : Sound Held Clear s) :
    Sound Held Clear (carryOut p tag r s).1 := by
  have flags (f : Traverse → Traverse) (hf : ∀ v : Traverse,
      (f v).state = v.state ∧ (f v).cur = v.cur ∧ (f v).scanNumber = v.scanNumber ∧ (f v).pos = v.pos ∧
        (f v).sinceStd = v.sinceStd ∧ (f v).failCount = v.failCount) : Sound Held Clear (s.onTrav f) :=
    R.steady ((Steady.refl s).thenFlags f hf) rfl hs
  have intends (i : Intent) : Sound Held Clear (s.setIntent i) :=
    flags (fun t => { t with intent := i }) fun _ => ⟨rfl, rfl, rfl, rfl, rfl, rfl⟩
  cases r <;> dsimp only [Machine.carryOut]
  case scanStart =>
    unfold takeScanStart
    split
    · exact R.startEffect (intends .scan)
    · exact hs
  case scanStop => exact R.stopEffect (intends .off)
  case dwellAt q =>
    exact R.dwellEffect _ (flags (fun t => { t with intent := .dwell, dwellPos := _ })
      fun _ => ⟨rfl, rfl, rfl, rfl, rfl, rfl⟩)
  case standardizeNow =>
    exact R.standardizeEffect (flags (fun t => { t with stdDue := true, stdAtPark := true })
      fun _ => ⟨rfl, rfl, rfl, rfl, rfl, rfl⟩)
  case clearFault =>
    unfold takeClearFault
    split
    · rename_i h
      exact R.park (R.repaired hs.1 h.1)
    · exact hs
  case readProfile sel kinds forms first last =>
    unfold takeReadProfile
    dsimp only
    split
    · exact hs
    · split
      · exact hs
      · split
        · exact hs
        · exact R.steady (s := s) (.of_eq rfl rfl rfl rfl) rfl hs
  case flushProfiles => exact R.steady (s := s) (.of_eq rfl rfl rfl rfl) rfl hs
  case resumeSheet => exact R.takeResumeSheet hs
  case acknowledgeAlarm id =>
    unfold takeAcknowledge
    split
    · exact hs
    · split
      · exact R.steady (s := s) (.of_eq rfl rfl rfl rfl) rfl hs
      · exact hs
  case writeSetup item value =>
    unfold takeWriteSetup
    split
    · exact hs
    · split
      · exact hs
      · exact hs
      · unfold stage
        dsimp only
        split
        · exact hs
        · exact R.steady (s := s) (.of_eq rfl rfl rfl rfl) rfl hs
  case readSetup item copy =>
    unfold takeReadSetup
    split <;> exact hs
  case discardStaging => exact R.steady (s := s) (.of_eq rfl rfl rfl rfl) rfl hs
  case commitSetup target => exact R.takeCommitSetup p target hs
  case subscribe mask =>
    unfold takeSubscribe
    split
    · exact hs
    · have k : Steady s (s.onPort p (fun q => { q with subs := mask.setWidth 10 })) :=
        (Steady.refl s).thenOnPort p _ fun h => h
      exact R.steady k rfl hs
  case readTallies mask clear =>
    refine R.steady (steady_takeReadTallies mask clear s) ?_ hs
    unfold takeReadTallies
    dsimp only
    split <;> rfl
  case clearTallies => exact R.steady (steady_takeClearTallies s) rfl hs
  all_goals exact hs

/-! ### The engine and the end of a sending -/

theorem takeRequest (p : PortId) (r : Queued) (hs : Sound Held Clear s) : Sound Held Clear (takeRequest p r s) := by
  have released := R.steady ((Steady.refl s).thenOnPort p Port.releaseHold (portSound_releaseHold _)) rfl hs
  have carried := R.carryOut p r.tag r.req released
  unfold Machine.takeRequest
  dsimp only
  refine R.steady ?_ ?_ carried
  · exact ((Steady.refl _).thenOnPort p _ fun h => h).thenFreeCount _
  · rfl

theorem pump (p : PortId) (hs : Sound Held Clear s) : Sound Held Clear (pump p s) := by
  unfold Machine.pump
  split
  · rename_i r rest _ hq
    refine R.takeRequest p r (R.steady ((Steady.refl s).thenOnPort p _ fun h => ?_) rfl hs)
    have := h.1
    rw [hq] at this
    exact portSound_inbound _ rest (by simp at this; omega) h
  · exact hs

theorem arrive (p : PortId) (r : Queued) (hs : Sound Held Clear s) : Sound Held Clear (arrive p r s) := by
  unfold Machine.arrive
  dsimp only
  split
  · exact R.takeRequest p r hs
  · split
    · rename_i hroom
      refine R.pump p (R.steady ((Steady.refl s).thenOnPort p _ fun h => ?_) rfl hs)
      exact portSound_holdAtArrival _ _ (portSound_inbound _ _ (by simp; omega) h)
    · refine R.pump p ?_
      unfold refuseFull
      split
      · exact hs
      · rename_i hroom
        refine R.steady (Steady.thenFreeCount ((Steady.refl s).thenOnPort p _ fun h => ?_) _) rfl hs
        exact ⟨h.1, by simp; omega, h.2.2⟩

theorem requestArrives (p : PortId) (r : Queued) (hs : Sound Held Clear s) :
    Sound Held Clear (requestArrives p r s) := by
  unfold Machine.requestArrives
  split
  · exact R.steady (Steady.refl _).thenSettle rfl (R.arrive p r hs)
  · exact hs

theorem frameDone (p : PortId) (x : Sending) (hx : (s.ports.get p).sending = some x) (hs : Sound Held Clear s) :
    Sound Held Clear (frameDone p x s) := by
  have sent : Steady s (s.onPort p (fun q => { q.sent x with sending := none })) :=
    (Steady.refl s).thenOnPort p _ fun h => portSound_sent x _ hx h
  unfold Machine.frameDone
  dsimp only
  refine R.pump p ?_
  split
  · exact R.steady (sent.thenReleasePin p) rfl hs
  · exact R.steady sent rfl hs

/-! ### Whole commands and steps -/

theorem settle (hs : Sound Held Clear s) : Sound Held Clear (settle s) := R.steady (Steady.refl s).thenSettle rfl hs

/-- A command keeps the invariant, where the index marks and the park position may be current positions. -/
theorem exec (i : Instr) (hF : Fits s.setup.active.indexF) (hD : Fits s.setup.active.indexD)
    (hP : Fits s.setup.active.parkPos) (hs : Sound Held Clear s) (ht : exec i s = .next t) : Sound Held Clear t := by
  have seen : Sound Held Clear (frameSeen s) := R.steady (s := s) (.of_eq rfl rfl rfl rfl) rfl hs
  have next {u v : State} (h : (Host.Outcome.next u : Answered) = .next v) (hu : Sound Held Clear u) :
      Sound Held Clear v := by
    cases h
    exact hu
  have onPort (p : PortId) (f : Port → Port) (hf : PortSound (s.ports.get p) → PortSound (f (s.ports.get p))) :
      Sound Held Clear (s.onPort p f) := R.steady ((Steady.refl s).thenOnPort p f hf) rfl hs
  cases i <;> dsimp only [Machine.exec] at ht
  case deviceReset =>
    refine next ht (R.steady (s := State.afterReset _ _ _) (.of_eq rfl rfl rfl rfl) rfl ⟨R.reset _ _ _, ?_⟩)
    intro a
    cases a
  case sample f =>
    unfold execSample at ht
    split at ht
    · exact next ht seen
    · exact next ht (R.settle (R.sampleRecord f hF hD hs))
  case arrived number pos =>
    unfold execArrived at ht
    split at ht
    · exact next ht (R.settle (R.arrival (R.noteArrival pos seen) hP))
    · exact next ht seen
  case headStatus flags =>
    have linked := R.steady ((Steady.refl _).thenOnLink (fun l => { l with headPresent := presentFlag flags })) rfl seen
    unfold execHeadStatus at ht
    dsimp only at ht
    split at ht
    · exact next ht (R.settle (R.headFault linked))
    · exact next ht linked
  case carriageFrameDiscarded => exact next ht hs
  case carriageFrameUnknownType => exact next ht seen
  case silenceTimerExpiry =>
    have down : Sound Held Clear (linkDown s) := R.steady ((Steady.refl s).thenOnLink _) rfl hs
    unfold execSilenceTimerExpiry at ht
    dsimp only at ht
    split at ht
    · exact next ht hs
    · split at ht
      · refine next ht (R.steady (s := linkDown s) (.thenFlags (.refl _) _ fun _ => ?_) rfl down)
        exact ⟨rfl, rfl, rfl, rfl, rfl, rfl⟩
      · exact next ht (R.settle (R.headFault down))
  case moveTimerExpiry =>
    unfold execMoveTimerExpiry at ht
    split at ht
    · exact next ht hs
    · refine next ht (R.settle (R.headFault (R.steady (s := s) (.thenFlags (.refl _) _ fun _ => ?_) rfl hs)))
      exact ⟨rfl, rfl, rfl, rfl, rfl, rfl⟩
  case lineLevelChange l level =>
    unfold execLineLevelChange at ht
    split at ht
    · exact next ht hs
    · exact next ht (R.settle (R.lineChange l level hs))
  case lineDebounceExpiry l =>
    unfold execLineDebounceExpiry at ht
    split at ht
    · exact next ht hs
    · exact next ht (R.settle (R.debounced l hs))
  case finalized =>
    unfold execFinalized at ht
    split at ht
    · exact next ht (R.settle (R.finalizeSet _ ‹_› hs))
    · exact next ht hs
  case hold p time =>
    unfold execHold at ht
    split at ht
    · exact next ht (R.settle (onPort p _ fun h => h))
    · exact next ht hs
  case masterHoldExpiry p =>
    unfold execMasterHoldExpiry at ht
    dsimp only at ht
    split at ht
    · exact next ht hs
    · exact next ht (R.settle (onPort p _ (portSound_masterExpires _)))
  case partHoldExpiry p =>
    unfold execPartHoldExpiry at ht
    split at ht
    · exact next ht hs
    · exact next ht (R.settle (onPort p _ (portSound_renewHold _ _)))
  case portReset p tag =>
    unfold execPortReset at ht
    split at ht
    · exact next ht (R.settle (R.steady ((Steady.refl s).thenResetPort p _ _) rfl hs))
    · exact next ht hs
  case serviceFrameDiscarded p =>
    unfold execServiceFrameDiscarded at ht
    split at ht
    · exact next ht (R.settle (R.steady ((Steady.refl s).thenCountOne _) (by simp) hs))
    · exact next ht hs
  case linkLineFall p =>
    unfold execLinkLineFall at ht
    split at ht
    · exact next ht (R.steady ((Steady.refl _).thenResetPort p _ _) rfl (onPort p _ fun h => h))
    · exact next ht hs
  case linkLineRise p =>
    unfold execLinkLineRise at ht
    split at ht
    · exact next ht hs
    · exact next ht (R.settle (onPort p _ fun h => h))
  case frameSent p =>
    unfold execFrameSent at ht
    split at ht
    · exact next ht (R.settle (R.frameDone p _ ‹_› hs))
    · exact next ht hs
  all_goals exact next ht (R.requestArrives _ _ hs)

/-- A step keeps the invariant. -/
theorem step (hF : Fits s.setup.active.indexF) (hD : Fits s.setup.active.indexD) (hP : Fits s.setup.active.parkPos)
    (hs : Sound Held Clear s) (ht : step s = .next t) : Sound Held Clear t := by
  unfold Machine.step at ht
  split at ht
  · cases ht
    exact hs
  · refine R.exec _ ?_ ?_ ?_ ?_ ht
    · exact hF
    · exact hD
    · exact hP
    · exact R.steady (s := s) (.of_eq rfl rfl rfl rfl) rfl hs

end FrameRules

end Sys2Proof.Machine
end

section
/-! ## Proofs: the invariants of the frame -/

namespace Sys2Proof.Machine

variable {s t : State}

/-! ### One set by its name -/

theorem EdgeUnit.state_of_accumulating {e : EdgeUnit} {i : SetId} (h : e.accumulating = some i) :
    (e.get i).state = .accumulating := by
  unfold EdgeUnit.accumulating at h
  split at h
  · cases h
    assumption
  · split at h
    · cases h
      assumption
    · cases h

theorem EdgeUnit.state_of_finalizing {e : EdgeUnit} {i : SetId} (h : e.finalizing = some i) :
    (e.get i).state = .finalizing := by
  unfold EdgeUnit.finalizing at h
  split at h
  · cases h
    assumption
  · split at h
    · cases h
      assumption
    · cases h

theorem EdgeUnit.state_of_freeSet {e : EdgeUnit} {i : SetId} (h : e.freeSet = some i) : (e.get i).state = .free := by
  unfold EdgeUnit.freeSet at h
  split at h
  · cases h
    assumption
  · split at h
    · cases h
      assumption
    · cases h

theorem Steady.view (k : Steady s t) (i : SetId) : (t.edge.get i).view = (s.edge.get i).view := by
  cases i
  · exact k.x
  · exact k.y

theorem Steady.setState (k : Steady s t) (i : SetId) : (t.edge.get i).state = (s.edge.get i).state :=
  congrArg SetView.state (k.view i)

theorem AccSet.gathers_view {a b : AccSet} (c : CurScan) (h : a.view = b.view) : a.gathers c = b.gathers c := by
  obtain ⟨h1, h2, h3, h4⟩ : a.state = b.state ∧ a.scan = b.scan ∧ a.dir = b.dir ∧ a.slipped = b.slipped := by
    simpa [AccSet.view] using h
  simp only [AccSet.gathers, h1, h2, h3, h4]

theorem AccSet.state_of_gathers {a : AccSet} {c : CurScan} (h : a.gathers c = true) : a.state = .accumulating := by
  simp_all [AccSet.gathers]

theorem SetId.eq_or_other (i j : SetId) : j = i ∨ j = i.other := by cases i <;> cases j <;> simp [SetId.other]

theorem EdgeUnit.forall_get {e : EdgeUnit} (i : SetId) {p : AccSet → Prop} (h : p (e.get i)) (k : p (e.get i.other)) :
    ∀ j, p (e.get j) := fun j => by
  rcases SetId.eq_or_other i j with rfl | rfl
  · exact h
  · exact k

theorem EdgeUnit.get_tracker (e : EdgeUnit) (k : Option Tracker) (j : SetId) :
    ({ e with tracker := k } : EdgeUnit).get j = e.get j := by cases j <;> rfl

/-- R80 step 8: the set whose finalization has ended is FREE. -/
theorem passOn_get (i : SetId) (s : State) : (passOn i s).edge.get i = AccSet.free := by
  unfold passOn
  cases i <;> dsimp only <;> split <;> rfl

/-- R80 step 8: the other set begins finalizing when it waits. -/
theorem passOn_get_other (i : SetId) (s : State) :
    (passOn i s).edge.get i.other =
      if (s.edge.get i.other).state = .waiting then { s.edge.get i.other with state := .finalizing }
      else s.edge.get i.other := by
  unfold passOn
  simp only [State.onSet_edge, EdgeUnit.get_set_other]
  split
  · rw [State.onSet_edge, EdgeUnit.get_set_self, State.onSet_edge, EdgeUnit.get_set_other]
  · rw [State.onSet_edge, EdgeUnit.get_set_other]

theorem passOn_tracker (i : SetId) (s : State) : (passOn i s).edge.tracker = s.edge.tracker := by
  unfold passOn
  dsimp only
  split <;> simp

theorem begunScan_get (i : SetId) (dir : Dir) (s : State) :
    (begunScan i dir s).edge.get i = claimedSet (s.trav.scanNumber + 1) dir s := by cases i <;> rfl

theorem begunScan_get_other (i : SetId) (dir : Dir) (s : State) :
    (begunScan i dir s).edge.get i.other = s.edge.get i.other := by cases i <;> rfl

theorem handedScan_get (i : SetId) (s : State) : ((handedScan i s).edge.get i).state =
    if (s.edge.get i.other).state = .finalizing then .waiting else .finalizing := by cases i <;> rfl

theorem handedScan_get_other (i : SetId) (s : State) :
    (handedScan i s).edge.get i.other = s.edge.get i.other := by cases i <;> rfl

/-! ### The scan in progress in one set (R7, R58, R73) -/

/-- No scan is in progress, whatever the traverse state: no current scan, no tracker and no ACCUMULATING set. -/
abbrev ScanOver (s : State) : Prop :=
  s.trav.cur = none ∧ s.edge.tracker = none ∧ ∀ i, (s.edge.get i).state ≠ .accumulating

theorem ScanOver.matches (h : ScanOver s) (hs : s.trav.state ≠ .scanning) : ScanMatches s := by
  obtain ⟨hc, hk, hsets⟩ := h
  simp only [ScanMatches, hc]
  exact ⟨hs, hk, hsets .x, hsets .y⟩

theorem ScanMatches.ended (h : ScanMatches s) (hs : s.trav.state ≠ .scanning) : ScanOver s := by
  unfold ScanMatches at h
  split at h
  · exact absurd h.1 hs
  · obtain ⟨_, hk, hx, hy⟩ := h
    exact ⟨‹_›, hk, EdgeUnit.forall_get (p := fun a => a.state ≠ .accumulating) .x hx hy⟩

theorem scanMatches_of_gathers {c : CurScan} (i : SetId) (hc : s.trav.cur = some c) (hs : s.trav.state = .scanning)
    (hn : c.number = s.trav.scanNumber) (hk : s.edge.tracker.isSome = true) (hg : (s.edge.get i).gathers c = true)
    (ho : (s.edge.get i.other).state ≠ .accumulating) : ScanMatches s := by
  simp only [ScanMatches, hc]
  refine ⟨hs, hn, hk, ?_⟩
  cases i
  · exact .inl ⟨hg, ho⟩
  · exact .inr ⟨hg, ho⟩

/-- In SCANNING one set gathers the current scan, and the other does not accumulate. -/
theorem ScanMatches.scanning (h : ScanMatches s) (hs : s.trav.state = .scanning) :
    ∃ c i, s.trav.cur = some c ∧ c.number = s.trav.scanNumber ∧ s.edge.tracker.isSome = true ∧
      (s.edge.get i).gathers c = true ∧ (s.edge.get i.other).state ≠ .accumulating := by
  unfold ScanMatches at h
  split at h
  · rename_i c hc
    obtain ⟨_, hn, hk, hx | hy⟩ := h
    · exact ⟨c, .x, hc, hn, hk, hx⟩
    · exact ⟨c, .y, hc, hn, hk, hy⟩
  · exact absurd hs h.1

theorem ScanOver.steady (k : Steady s t) (h : ScanOver s) : ScanOver t := by
  have hk : t.edge.tracker = none ↔ s.edge.tracker = none := by
    rw [← Option.not_isSome_iff_eq_none, ← Option.not_isSome_iff_eq_none, k.tracking]
  simpa only [ScanOver, k.cur, k.setState, hk] using h

theorem ScanMatches.steady (k : Steady s t) (h : ScanMatches s) : ScanMatches t := by
  by_cases hs : s.trav.state = .scanning
  · obtain ⟨c, i, hc, hn, hk, hg, ho⟩ := h.scanning hs
    exact scanMatches_of_gathers i (k.cur.trans hc) (k.state.trans hs) (hn.trans k.scanNumber.symm)
      (k.tracking.trans hk) ((AccSet.gathers_view c (k.view i)).trans hg) (by rwa [k.setState])
  · exact (ScanOver.steady k (h.ended hs)).matches (by rwa [k.state])

/-- R73: the accumulating set is the one that gathers. -/
theorem accumulating_of_gathers {c : CurScan} {i : SetId} (hg : (s.edge.get i).gathers c = true)
    (ho : (s.edge.get i.other).state ≠ .accumulating) : s.edge.accumulating = some i := by
  have hi := AccSet.state_of_gathers hg
  cases i <;> simp_all [EdgeUnit.accumulating, EdgeUnit.get, SetId.other]

theorem ScanMatches.dropped (h : ScanMatches s) (hs : s.trav.state = .scanning) : ScanOver (droppedScan s) := by
  obtain ⟨c, i, _, _, _, hg, ho⟩ := h.scanning hs
  have e : (droppedScan s).edge = { s.edge.set i AccSet.free with tracker := none } := by
    simp only [droppedScan, gatheringFreed, accumulating_of_gathers hg ho]
  refine ⟨rfl, by rw [e], ?_⟩
  rw [e]
  refine EdgeUnit.forall_get (p := fun a => a.state ≠ .accumulating) i ?_ ?_
  · rw [EdgeUnit.get_tracker, EdgeUnit.get_set_self]
    simp [AccSet.free]
  · rwa [EdgeUnit.get_tracker, EdgeUnit.get_set_other]

theorem ScanOver.faulted (h : ScanOver s) : ScanMatches (faultedFrame s) := by
  refine ScanOver.matches ⟨rfl, ?_⟩ (by simp [faultedFrame])
  simpa [faultedFrame, h.1] using h.2

theorem ScanMatches.faulted (h : ScanMatches s) : ScanMatches (faultedFrame s) := by
  by_cases hs : s.trav.state = .scanning
  · obtain ⟨c, _, hc, _⟩ := h.scanning hs
    refine ScanOver.matches ⟨rfl, ?_⟩ (by simp [faultedFrame])
    simpa [faultedFrame, droppedScan, hc] using (h.dropped hs).2
  · exact (h.ended hs).faulted

theorem ScanOver.begun {i : SetId} (dir : Dir) (h : ScanOver s) : ScanMatches (begunScan i dir s) := by
  refine scanMatches_of_gathers i rfl rfl rfl rfl ?_ ?_
  · rw [begunScan_get]
    simp [AccSet.gathers, claimedSet]
  · rw [begunScan_get_other]
    exact h.2.2 i.other

theorem ScanMatches.handed {i : SetId} (h : ScanMatches s) (hs : s.trav.state = .scanning)
    (hi : s.edge.accumulating = some i) : ScanOver (handedScan i s) := by
  obtain ⟨c, j, _, _, _, hg, ho⟩ := h.scanning hs
  obtain rfl : j = i := Option.some.inj ((accumulating_of_gathers hg ho).symm.trans hi)
  refine ⟨rfl, rfl, EdgeUnit.forall_get (p := fun a => a.state ≠ .accumulating) j ?_ ?_⟩
  · rw [handedScan_get]
    split <;> simp
  · rwa [handedScan_get_other]

theorem ScanMatches.passed {i : SetId} (h : ScanMatches s) (hi : s.edge.finalizing = some i) :
    ScanMatches (passOn i s) := by
  have hf := EdgeUnit.state_of_finalizing hi
  by_cases hs : s.trav.state = .scanning
  · obtain ⟨c, j, hc, hn, hk, hg, _⟩ := h.scanning hs
    have hj := AccSet.state_of_gathers hg
    obtain rfl | rfl := SetId.eq_or_other i j
    · simp [hf] at hj
    · refine scanMatches_of_gathers i.other (by rwa [passOn_trav]) (by rwa [passOn_trav]) (by rwa [passOn_trav])
        (by rwa [passOn_tracker]) ?_ ?_
      · rw [passOn_get_other, if_neg (by simp [hj])]
        exact hg
      · rw [SetId.other_other, passOn_get]
        simp [AccSet.free]
  · obtain ⟨hc, hk, hsets⟩ := h.ended hs
    refine ScanOver.matches ⟨by rwa [passOn_trav], by rwa [passOn_tracker],
      EdgeUnit.forall_get (p := fun a => a.state ≠ .accumulating) i ?_ ?_⟩ (by rwa [passOn_trav])
    · rw [passOn_get]
      simp [AccSet.free]
    · rw [passOn_get_other]
      split
      · simp
      · exact hsets i.other

theorem ScanMatches.slipped (h : ScanMatches s) : ScanMatches (markSlipped s) := by
  unfold markSlipped
  split
  · rename_i hs
    obtain ⟨c, i, hc, hn, hk, hg, ho⟩ := h.scanning hs
    have hi := accumulating_of_gathers hg ho
    simp only [State.onTrav_edge, hi]
    refine scanMatches_of_gathers (c := { c with slipped := true }) i (by simp [hc]) hs hn (by simpa using hk) ?_ ?_
    · simp only [AccSet.gathers, Bool.and_eq_true] at hg
      simpa [AccSet.gathers] using hg.1
    · simpa using ho
  · exact h

/-- The rules for the scan in progress. -/
theorem scanRules : FrameRules ScanMatches ScanOver (fun _ => True) (fun _ => True) where
  held_steady := ScanMatches.steady
  rest_steady k _ h := h.steady k
  clear_permits _ := trivial
  clear_same _ _ := trivial
  rest_held h hs _ _ := h.ended hs
  moved h ha _ := ScanOver.matches h ha
  flown _ h := ScanOver.matches h (by simp [State.inFlight, State.inState])
  dropped := ScanMatches.dropped
  stray _ _ _ := trivial
  faulted := ScanMatches.faulted
  rest_faulted := ScanOver.faulted
  begun dir h _ _ := h.begun dir
  handed h hs hi := h.handed hs hi
  passed h hi := h.passed hi
  placed _ h := h
  fits _ := trivial
  rest_since _ h := h
  repaired h hs := h.ended (by simp [hs])
  concluded h hs _ _ := h.ended (by simp [hs])
  failed h hs := ScanOver.matches (h.ended (by simp [hs])) (by simp [State.inState])
  slipped := ScanMatches.slipped
  reset _ _ _ := ⟨by simp [State.afterReset], rfl, by simp [State.afterReset, AccSet.free],
    by simp [State.afterReset, AccSet.free]⟩

/-! ### One set with the finalizer (R73, R77, R78) -/

theorem finalizerMatches_iff (s : State) (i : SetId) : FinalizerMatches s ↔
    ¬ ((s.edge.get i).state = .finalizing ∧ (s.edge.get i.other).state = .finalizing) ∧
      ((s.edge.get i).state = .waiting → (s.edge.get i.other).state = .finalizing) ∧
      ((s.edge.get i.other).state = .waiting → (s.edge.get i).state = .finalizing) := by
  cases i
  · exact Iff.rfl
  · simp only [FinalizerMatches, EdgeUnit.get, SetId.other]
    tauto

theorem FinalizerMatches.steady (k : Steady s t) (h : FinalizerMatches s) : FinalizerMatches t := by
  simpa only [FinalizerMatches, k.xState, k.yState] using h

/-- A set that neither finalizes nor waits gives way to one in any state that does neither. -/
theorem finalizerMatches_set {i : SetId} (h : FinalizerMatches s)
    (hi : (s.edge.get i).state = .free ∨ (s.edge.get i).state = .accumulating)
    (ti : (t.edge.get i).state = .free ∨ (t.edge.get i).state = .accumulating)
    (ho : (t.edge.get i.other).state = (s.edge.get i.other).state) : FinalizerMatches t := by
  rw [finalizerMatches_iff _ i] at h ⊢
  rw [ho]
  obtain ⟨_, _, hw⟩ := h
  rcases hi with hi | hi <;> rcases ti with ti | ti <;> simp_all

theorem FinalizerMatches.dropped (h : FinalizerMatches s) : FinalizerMatches (droppedScan s) := by
  cases hi : s.edge.accumulating with
  | none => simpa [FinalizerMatches, droppedScan, gatheringFreed, hi] using h
  | some i =>
    have e : (droppedScan s).edge = { s.edge.set i AccSet.free with tracker := none } := by
      simp only [droppedScan, gatheringFreed, hi]
    refine finalizerMatches_set (i := i) h (.inr (EdgeUnit.state_of_accumulating hi)) (.inl ?_) ?_
    · rw [e, EdgeUnit.get_tracker, EdgeUnit.get_set_self]
      rfl
    · rw [e, EdgeUnit.get_tracker, EdgeUnit.get_set_other]

theorem FinalizerMatches.of_edge (e : t.edge = s.edge) (h : FinalizerMatches s) : FinalizerMatches t := by
  simpa only [FinalizerMatches, e] using h

theorem FinalizerMatches.faulted (h : FinalizerMatches s) : FinalizerMatches (faultedFrame s) := by
  cases hc : s.trav.cur with
  | none => exact h.of_edge (by simp [faultedFrame, hc])
  | some c => exact h.dropped.of_edge (by simp [faultedFrame, droppedScan, hc])

theorem FinalizerMatches.begun {i : SetId} (dir : Dir) (h : FinalizerMatches s) (hi : s.edge.freeSet = some i) :
    FinalizerMatches (begunScan i dir s) := by
  refine finalizerMatches_set (i := i) h (.inl (EdgeUnit.state_of_freeSet hi)) (.inr ?_) ?_
  · rw [begunScan_get]
    rfl
  · rw [begunScan_get_other]

theorem FinalizerMatches.handed {i : SetId} (h : FinalizerMatches s) (hi : s.edge.accumulating = some i) :
    FinalizerMatches (handedScan i s) := by
  have ha := EdgeUnit.state_of_accumulating hi
  rw [finalizerMatches_iff _ i] at h ⊢
  rw [handedScan_get, handedScan_get_other]
  split <;> simp_all

theorem FinalizerMatches.passed {i : SetId} (h : FinalizerMatches s) (hi : s.edge.finalizing = some i) :
    FinalizerMatches (passOn i s) := by
  have hf := EdgeUnit.state_of_finalizing hi
  rw [finalizerMatches_iff _ i] at h ⊢
  rw [passOn_get, passOn_get_other]
  split <;> simp_all [AccSet.free]

theorem FinalizerMatches.slipped (h : FinalizerMatches s) : FinalizerMatches (markSlipped s) := by
  unfold markSlipped
  split
  · dsimp only
    split
    · rename_i i hi
      rw [finalizerMatches_iff _ i] at h ⊢
      simpa using h
    · exact h
  · exact h

/-- The rules for the finalizer: what it is busy with does not depend on the traverse state. -/
theorem finalizerRules : FrameRules FinalizerMatches FinalizerMatches (fun _ => True) (fun _ => True) where
  held_steady := FinalizerMatches.steady
  rest_steady k _ h := h.steady k
  clear_permits _ := trivial
  clear_same _ _ := trivial
  rest_held h _ _ _ := h
  moved h _ _ := h
  flown _ h := h
  dropped h _ := h.dropped
  stray _ _ _ := trivial
  faulted := FinalizerMatches.faulted
  rest_faulted := FinalizerMatches.faulted
  begun dir h hi _ := h.begun dir hi
  handed h _ hi := h.handed hi
  passed h hi := h.passed hi
  placed _ h := h
  fits _ := trivial
  rest_since _ h := h
  repaired h _ := h
  concluded h _ _ _ := h
  failed h _ := h
  slipped := FinalizerMatches.slipped
  reset _ _ _ := by simp [FinalizerMatches, State.afterReset, AccSet.free]

end Sys2Proof.Machine
end

section
/-! ## Proofs: what every step keeps of the frame -/

namespace Sys2Proof.Machine

variable {s t : State}

/-! ### The standardization in flight (R27, R153) -/

theorem gatheringFreed_std (s : State) : (gatheringFreed s).std = s.std := by
  unfold gatheringFreed
  split <;> rfl

theorem gatheringFreed_setup (s : State) : (gatheringFreed s).setup = s.setup := by
  unfold gatheringFreed
  split <;> rfl

theorem passOn_std (i : SetId) (s : State) : (passOn i s).std = s.std := by
  unfold passOn
  dsimp only
  split <;> rfl

theorem passOn_ports (i : SetId) (s : State) : (passOn i s).ports = s.ports := by
  unfold passOn
  dsimp only
  split <;> rfl

theorem passOn_tallies (i : SetId) (s : State) : (passOn i s).tallies = s.tallies := by
  unfold passOn
  dsimp only
  split <;> rfl

theorem passOn_setup (i : SetId) (s : State) : (passOn i s).setup = s.setup := by
  unfold passOn
  dsimp only
  split <;> rfl

/-- R27, R153, with the part of R7 that a scan end in a break needs: in SCANNING there is a current scan. -/
abbrev FlightHeld (s : State) : Prop := FlightMatches s ∧ (s.trav.state = .scanning → s.trav.cur.isSome = true)

/-- No standardization is in flight and no group is due, whatever the traverse state. -/
abbrev FlightOver (s : State) : Prop := s.std.flight.isSome = false ∧ s.setup.groupMark = false

theorem FlightOver.matches (h : FlightOver s) (hs : s.trav.state ≠ .standardizing) : FlightMatches s := by
  obtain ⟨hf, hm⟩ := h
  simp [FlightMatches, hf, hm, hs]

theorem FlightMatches.ended (h : FlightMatches s) (hs : s.trav.state ≠ .standardizing) : FlightOver s := by
  obtain ⟨hf, hm⟩ := h
  exact ⟨by simpa [hs] using hf, by simpa [hs] using hm⟩

theorem FlightHeld.steady (k : Steady s t) (h : FlightHeld s) : FlightHeld t := by
  obtain ⟨⟨hf, hm⟩, hc⟩ := h
  refine ⟨⟨by rw [k.flying, k.state, hf], fun m => ?_⟩, by rwa [k.state, k.cur]⟩
  rw [k.state]
  exact (k.mark m).elim hm id

theorem FlightOver.steady (k : Steady s t) (hs : s.trav.state ≠ .standardizing ∨ t.setup.groupMark = false)
    (h : FlightOver s) : FlightOver t := by
  refine ⟨k.flying.trans h.1, ?_⟩
  rcases hs with hs | hm
  · cases m : t.setup.groupMark with
    | false => rfl
    | true => exact absurd (k.mark m) (by simp [h.2, hs])
  · exact hm

theorem FlightHeld.faulted (h : FlightHeld s) : FlightHeld (faultedFrame s) := by
  by_cases hs : s.trav.state = .standardizing
  · simp [FlightHeld, FlightMatches, faultedFrame, hs]
  · obtain ⟨hf, hm⟩ := h.1.ended hs
    simp [FlightHeld, FlightMatches, faultedFrame, hs, hf, hm]

theorem FlightOver.faulted (h : FlightOver s) : FlightHeld (faultedFrame s) := by
  obtain ⟨hf, hm⟩ := h
  simp only [FlightHeld, FlightMatches, faultedFrame, hm]
  split <;> simp [hf]

theorem FlightHeld.slipped (h : FlightHeld s) : FlightHeld (markSlipped s) := by
  unfold markSlipped
  split
  · dsimp only
    split
    all_goals simpa [FlightHeld, FlightMatches] using h
  · exact h

/-- The rules for the standardization in flight; the head may go to scan and dwell where the break state permits it. -/
theorem flightRules : FrameRules FlightHeld FlightOver (fun s => s.permits = true) (fun _ => True) where
  held_steady := FlightHeld.steady
  rest_steady := FlightOver.steady
  clear_permits h := h
  clear_same e h := e.trans h
  rest_held h _ hs _ := h.1.ended hs
  moved {s st} h ha hb := ⟨FlightOver.matches (s := s.inState st) h hb, fun e => absurd e ha⟩
  flown x h := by simp [FlightHeld, FlightMatches, State.inFlight, State.inState]
  dropped h hs := by
    simpa [FlightOver, droppedScan, gatheringFreed_std, gatheringFreed_setup] using h.1.ended (by simp [hs])
  stray h hs hc := by simpa [hc] using h.2 hs
  faulted := FlightHeld.faulted
  rest_faulted := FlightOver.faulted
  begun {s i} dir h _ _ := ⟨FlightOver.matches (s := begunScan i dir s) h (by simp [begunScan]), fun _ => rfl⟩
  handed h hs _ := h.1.ended (by simp [hs])
  passed {s i} h _ := by
    simpa only [FlightHeld, FlightMatches, passOn_trav, passOn_std, passOn_setup] using h
  placed _ h := h
  fits _ := trivial
  rest_since _ h := h
  repaired h hs := h.1.ended (by simp [hs])
  concluded h hs _ _ := ⟨rfl, rfl⟩
  failed h hs := by simp [FlightHeld, FlightMatches, concludedFrame, State.inState]
  slipped := FlightHeld.slipped
  reset _ _ _ := by simp [FlightHeld, FlightMatches, State.afterReset]

/-! ### The ranges (R7, R13, R163, R168, R178) -/

/-- The ports' bounds, the tallies' range and the traverse controller's ranges. -/
abbrev RangesHeld (s : State) : Prop := TraverseInRange s ∧ Banked s

/-- The same with fewer than three failures, as in every state but FAULT (R13). -/
abbrev RangesOver (s : State) : Prop :=
  (s.trav.pos ≤ maxPos ∧ s.trav.sinceStd ≤ 255 ∧ s.trav.scanNumber ≤ max32 ∧ s.trav.failCount ≤ 2) ∧ Banked s

theorem RangesHeld.over (h : RangesHeld s) (hs : s.trav.state ≠ .fault) : RangesOver s := by
  obtain ⟨⟨hp, hn, hc, hf, h3⟩, hb⟩ := h
  have : s.trav.failCount ≠ 3 := fun e => hs (h3 e)
  exact ⟨⟨hp, hn, hc, by omega⟩, hb⟩

theorem RangesOver.held (h : RangesOver s) : RangesHeld s := by
  obtain ⟨⟨hp, hn, hc, hf⟩, hb⟩ := h
  exact ⟨⟨hp, hn, hc, by omega, fun e => by omega⟩, hb⟩

theorem RangesHeld.steady (k : Steady s t) (h : RangesHeld s) : RangesHeld t := by
  obtain ⟨h, hb⟩ := h
  exact ⟨by simpa only [TraverseInRange, k.pos, k.sinceStd, k.scanNumber, k.failCount, k.state] using h, k.bank hb⟩

theorem RangesOver.steady (k : Steady s t) (h : RangesOver s) : RangesOver t := by
  obtain ⟨h, hb⟩ := h
  exact ⟨by simpa only [k.pos, k.sinceStd, k.scanNumber, k.failCount] using h, k.bank hb⟩

theorem RangesHeld.slipped (h : RangesHeld s) : RangesHeld (markSlipped s) := by
  unfold markSlipped
  split
  · dsimp only
    split
    · exact h
    · exact h
  · exact h

theorem banked_afterReset (brk tail : Bool) (lines : PerPort Bool) : Banked (State.afterReset brk tail lines) := by
  have hp (up : Bool) : PortSound (Port.afterReset up) := by
    simp [PortSound, Port.afterReset, Port.unbegun]
  refine ⟨⟨hp _, hp _, hp _⟩, ?_⟩
  have ht : (State.afterReset brk tail lines).tallies = TallyBank.zero := rfl
  rw [TalliesInRange, ht]
  decide

/-- The rules for the ranges: a preset position is in its range as an item's value is (R137). -/
theorem rangesRules : FrameRules RangesHeld RangesOver (fun _ => True) (fun p => p ≤ maxPos) where
  held_steady := RangesHeld.steady
  rest_steady k _ h := h.steady k
  clear_permits _ := trivial
  clear_same _ _ := trivial
  rest_held h _ _ hs := h.over hs
  moved {s st} h _ _ := RangesOver.held (s := s.inState st) h
  flown _ h := RangesOver.held h
  dropped h hs := h.over (by simp [hs])
  stray _ _ _ := trivial
  faulted h := by
    obtain ⟨⟨hp, hn, hc, hf, _⟩, hb⟩ := h
    exact ⟨⟨hp, hn, hc, hf, fun _ => rfl⟩, hb⟩
  rest_faulted h := by
    obtain ⟨⟨hp, hn, hc, hf⟩, hb⟩ := h
    exact ⟨⟨hp, hn, hc, Nat.le_succ_of_le hf, fun _ => rfl⟩, hb⟩
  begun dir h _ hlt := by
    obtain ⟨⟨hp, hn, _, hf⟩, hb⟩ := h
    exact RangesOver.held ⟨⟨hp, hn, hlt, hf⟩, hb⟩
  handed h hs _ := h.over (by simp [hs])
  passed h _ := by
    simpa only [RangesHeld, TraverseInRange, Banked, PortsSound, TalliesInRange, passOn_trav, passOn_ports,
      passOn_tallies] using h
  placed hp h := ⟨⟨hp, h.1.2⟩, h.2⟩
  fits h := h
  rest_since hn h := ⟨⟨h.1.1, hn, h.1.2.2⟩, h.2⟩
  repaired h _ := by
    obtain ⟨⟨hp, hn, hc, _⟩, hb⟩ := h
    exact ⟨⟨hp, hn, hc, Nat.zero_le 2⟩, hb⟩
  concluded h _ hf hn := by
    obtain ⟨⟨hp, hs, hc, _⟩, hb⟩ := h
    exact ⟨⟨hp, hn.trans hs, hc, hf⟩, hb⟩
  failed h hs := by
    obtain ⟨⟨hp, hn, hc, hf⟩, hb⟩ := h.over (by simp [hs])
    exact ⟨⟨hp, hn, hc, Nat.succ_le_succ hf, fun _ => rfl⟩, hb⟩
  slipped := RangesHeld.slipped
  reset brk tail lines := by
    obtain ⟨hp, ht⟩ := banked_afterReset brk tail lines
    exact RangesOver.held ⟨by simp [State.afterReset], hp, ht⟩

/-- R137: the positions that INDEX_F, INDEX_D and PARK_POS give in a setup in range. -/
theorem SetupSound.positions (h : SetupSound s) :
    s.setup.active.indexF ≤ maxPos ∧ s.setup.active.indexD ≤ maxPos ∧ s.setup.active.parkPos ≤ maxPos := by
  obtain ⟨hfit, _⟩ := h
  refine ⟨?_, ?_, ?_⟩
  · simpa [activeFits, valueFits, Item.shape, Setup.get] using hfit .indexF (by decide)
  · simpa [activeFits, valueFits, Item.shape, Setup.get] using hfit .indexD (by decide)
  · simpa [activeFits, valueFits, Item.shape, Setup.get] using hfit .parkPos (by decide)

/-- R22: the states in which the frame stands in a break are those away from scanning and dwelling. -/
theorem parkedInBreak_iff : ParkedInBreak s ↔ (s.trav.state.away = false → s.permits = true) := by
  cases h : s.trav.state <;> simp [ParkedInBreak, TravState.away, h]

/-- R7: in SCANNING there is a current scan. -/
theorem ScanMatches.current (h : ScanMatches s) (hs : s.trav.state = .scanning) : s.trav.cur.isSome = true := by
  obtain ⟨c, _, hc, _⟩ := h.scanning hs
  simp [hc]

end Sys2Proof.Machine

open Sys2Proof Sys2Proof.Machine

/-- Settles O56: the rules of the scan in progress and those of the finalizer, kept by every command. -/
theorem everyStepKeepsTheScanInOneSet : Obligations.EveryStepKeepsTheScanInOneSet := by
  intro s t hscan hfin ht
  exact ⟨(scanRules.step trivial trivial trivial ⟨hscan, fun _ => trivial⟩ ht).1,
    (finalizerRules.step trivial trivial trivial ⟨hfin, fun _ => trivial⟩ ht).1⟩

/-- Settles O57: the rules of the standardization in flight, kept by every command together with the break state's
permission away from park. -/
theorem everyStepKeepsTheFrameParkedInABreak : Obligations.EveryStepKeepsTheFrameParkedInABreak := by
  intro s t hscan hpark hflight ht
  obtain ⟨⟨hflight', _⟩, hpark'⟩ :=
    flightRules.step trivial trivial trivial ⟨⟨hflight, hscan.current⟩, parkedInBreak_iff.1 hpark⟩ ht
  exact ⟨parkedInBreak_iff.2 hpark', hflight'⟩

/-- Settles O60: the rules of the ranges; the positions a preset takes are in range as the setup is (R137). -/
theorem everyStepKeepsTheRanges : Obligations.EveryStepKeepsTheRanges := by
  intro s t hsetup hports htallies htrav ht
  obtain ⟨hF, hD, hP⟩ := hsetup.positions
  obtain ⟨⟨htrav', hports', htallies'⟩, _⟩ :=
    rangesRules.step hF hD hP ⟨⟨htrav, hports, htallies⟩, fun _ => trivial⟩ ht
  exact ⟨hports', htallies', htrav'⟩
end

section
/-! ## Proofs: how a command comes to its effect -/

namespace Sys2Proof.Machine

variable {s : State}

theorem permits_iff : s.permits = true ↔ s.mon.state ≠ .brk ∧ s.mon.state ≠ .threading := by
  unfold State.permits
  cases s.mon.state <;> simp [BreakState.permits]

/-! ### Frames of the carriage link (R2 to R5) -/

theorem frameSeen_eq (s : State) :
    frameSeen s = { s with link := { s.link with up := true, silence := some s.setup.active.headTimeout } } := rfl

/-- R4: a repeat keeps the link UP and does nothing else. -/
theorem exec_sample_repeat {f : SampleFrame} (h : s.link.lastSeq = some f.seq) :
    exec (.sample f) s = .next (frameSeen s) := by
  have hr : isRepeat f s = true := by simp [isRepeat, h]
  simp [exec, execSample, hr]

/-- R4, R5: a sample that is no repeat is reckoned and delivered. -/
theorem exec_sample_taken {f : SampleFrame} (h : s.link.lastSeq ≠ some f.seq) :
    exec (.sample f) s = .next (settle (deliver f (reckon f (takeSeq f (frameSeen s))))) := by
  have hr : isRepeat f s = false := by simp [isRepeat, h]
  have hr' : isRepeat f (frameSeen s) = false := decide_eq_false h
  simp [exec, execSample, sampleRecord, hr, hr']

/-- R4, R5: a sample without an index flag goes to its destination at its place. -/
theorem exec_sample_placed {f : SampleFrame} (h : s.link.lastSeq ≠ some f.seq) (hF : indexFFlag f = false)
    (hD : indexDFlag f = false) : exec (.sample f) s = .next (settle (deliver f (placed f s))) := by
  rw [exec_sample_taken h, reckon_eq f s hF hD]

/-- R5, R10: the state in which an ARRIVED that is taken finds its effect. -/
def arrivedAt (pos : BitVec 16) (s : State) : State :=
  { s with
    link := { s.link with up := true, silence := some s.setup.active.headTimeout }
    trav := { s.trav with
      moveTimer := none
      pos := if s.setup.active.positionMode = .encoder then min pos.toNat 32767 else s.trav.pos } }

theorem noteArrival_eq (pos : BitVec 16) (s : State) : noteArrival pos (frameSeen s) = arrivedAt pos s := rfl

/-- R2: an ARRIVED that is taken. -/
theorem exec_arrived_taken {number : BitVec 8} (pos : BitVec 16) (h : s.link.lastMotion = some number)
    (hs : s.trav.state = .parking ∨ s.trav.state = .positioning ∨ s.trav.state = .scanning) :
    exec (.arrived number pos) s = .next (settle (arrival (arrivedAt pos s))) := by
  have ht : takesArrived number s = true := by simpa [takesArrived, h, or_assoc] using hs
  simp [exec, execArrived, ht, noteArrival_eq]

/-- R2: an ARRIVED that is not taken. -/
theorem exec_arrived_ignored {number : BitVec 8} (pos : BitVec 16) (h : s.link.lastMotion ≠ some number ∨
      (s.trav.state ≠ .parking ∧ s.trav.state ≠ .positioning ∧ s.trav.state ≠ .scanning)) :
    exec (.arrived number pos) s = .next (frameSeen s) := by
  have ht : takesArrived number s = false := by
    rcases h with h | ⟨h1, h2, h3⟩
    · simp [takesArrived, h]
    · simp [takesArrived, h1, h2, h3]
  simp [exec, execArrived, ht]

/-! ### Requests (R163, R165) -/

/-- R165: a request taken at once that is answered with a code and fields alone. -/
theorem requestArrives_replied {p : PortId} {r : Request} {t : State} {code : RespCode} {body : RespBody}
    (h : TakesAtOnce p s) (tag : BitVec 8) (free : codeUses r = 0)
    (k : carryOut p tag r (taken p s) = (t, Answer.of code body)) :
    requestArrives p ⟨tag, r⟩ s = replied p tag r.code code body t := by
  rw [requestArrives_taken p _ s h, takeRequest_replied p tag r s t code body k free]

/-! ### Where the traverse controller goes (R12 to R14) -/

theorem enterPositioning_turnF (s : State) : enterPositioning .turnF s = sentTo .turnF s.setup.active.turnF s := rfl

theorem enterPositioning_turnD (s : State) : enterPositioning .turnD s = sentTo .turnD s.setup.active.turnD s := rfl

theorem enterPositioning_dwell (s : State) :
    enterPositioning .dwellPos s =
      sentTo .dwellPos (clampNat s.setup.active.turnF s.setup.active.turnD s.trav.dwellPos)
        { s with trav := { s.trav with
            dwellPos := clampNat s.setup.active.turnF s.setup.active.turnD s.trav.dwellPos } } := rfl

theorem enterStandardizing_eq (s : State) : enterStandardizing s = standardizing s := rfl

theorem enterPositioning_nearer (s : State) :
    enterPositioning (nearerTurn s) s =
      if absDiff s.trav.pos s.setup.active.turnF ≤ absDiff s.trav.pos s.setup.active.turnD then
        sentTo .turnF s.setup.active.turnF s
      else sentTo .turnD s.setup.active.turnD s := by
  unfold nearerTurn
  split <;> rfl

/-- R12 items 2 to 4. -/
theorem resume_scan (hp : s.permits = true) (hi : s.trav.intent = .scan) :
    resume s = sentTo .turnF s.setup.active.turnF s := by
  simp [resume, hp, hi, enterPositioning_turnF]

theorem resume_dwell (hp : s.permits = true) (hi : s.trav.intent = .dwell) :
    resume s = enterPositioning .dwellPos s := by
  simp [resume, hp, hi]

theorem resume_idle (h : s.trav.intent = .off ∨ s.permits = false) : resume s = changeState .idle s := by
  unfold resume
  rcases h with h | h
  · split <;> simp [h]
  · simp [h]

theorem idleStart_parks (target : MoveTarget) (h : s.trav.atPark = false) : idleStart target s = park s := by
  simp [idleStart, h]

theorem idleStart_standardizes (target : MoveTarget) (h : s.trav.atPark = true) (hd : s.trav.stdDue = true) :
    idleStart target s = standardizing s := by
  simp [idleStart, h, hd, enterStandardizing_eq]

theorem idleStart_goes (target : MoveTarget) (h : s.trav.atPark = true) (hd : s.trav.stdDue = false) :
    idleStart target s = enterPositioning target s := by
  simp [idleStart, h, hd]

end Sys2Proof.Machine

open Sys2Proof Sys2Proof.Machine

/-- Settles O2: the reset state is closed, and each value and invariant is evaluated on it. -/
theorem resetLeavesTheValuesOfTheTables : Obligations.ResetLeavesTheValuesOfTheTables := by
  refine ⟨⟨rfl, by decide, rfl, by decide, rfl, by decide, rfl, ?_, ?_, by decide⟩, by decide,
    ⟨by decide, rfl, by decide, by decide⟩, by decide, by decide, by decide,
    ⟨by decide, by decide, by decide, by decide, rfl, rfl, rfl⟩, by decide, by decide, by decide, by decide⟩
  · refine ⟨by decide, rfl, rfl, rfl, rfl, rfl, rfl⟩
  · intro p _
    cases p <;> rfl

/-- Settles O13: each frame's own case of the link. -/
theorem checkedFramesKeepTheLinkUp : Obligations.CheckedFramesKeepTheLinkUp := by
  intro s
  refine ⟨rfl, rfl, fun f h => exec_sample_repeat h, fun number pos h => exec_arrived_ignored pos h, ?_⟩
  intro flags h0 h1
  have hf : statusFaults flags = false := by
    simp only [statusFaults, presentFlag, faultFlag, h0, h1, Bool.not_true, Bool.or_false]
  simp only [exec, execHeadStatus, hf, presentFlag, h0, frameSeen, State.onLink, Bool.false_eq_true, if_false]
end

section
open Sys2Proof Sys2Proof.Machine

/-- Settles O3: every field of the state that DEVICE_RESET leaves is evaluated, the levels of the lines being the only
unknowns. -/
theorem deviceResetRestoresEveryBlock : Obligations.DeviceResetRestoresEveryBlock := by
  intro s
  refine ⟨_, rfl, ?_, ?_, ?_, ?_, rfl, rfl, rfl⟩
  · refine ⟨rfl, ⟨rfl, rfl, rfl, rfl, rfl, rfl, rfl, rfl, rfl, rfl, rfl, rfl, rfl⟩, rfl, ⟨rfl, rfl, rfl, rfl, rfl⟩, rfl,
      ⟨rfl, rfl, rfl, rfl, rfl, rfl, rfl⟩, rfl, ⟨?_, rfl, rfl, rfl, rfl, rfl, rfl⟩, ?_, ?_⟩
    · exact (show Item.all.map Setup.defaults.get = _ by decide)
    · intro p _
      cases p <;> rfl
    · intro id _
      cases id <;> rfl
  · exact ⟨rfl, rfl⟩
  · exact ⟨rfl, rfl⟩
  · intro p
    cases p <;> rfl

/-- Settles O44: the four reads carry out to the state they read. -/
theorem readsReportTheStateAndChangeNothing : Obligations.ReadsReportTheStateAndChangeNothing := by
  refine ⟨fun p tag s h => ⟨?_, ?_, ?_⟩, fun p tag item copy s h => ?_⟩
  · exact congrArg _ (requestArrives_replied (r := .readStatus) h tag rfl rfl)
  · exact congrArg _ (requestArrives_replied (r := .readStandardization) h tag rfl rfl)
  · exact congrArg _ (requestArrives_replied (r := .readAlarms) h tag rfl rfl)
  · change Host.Outcome.next (requestArrives p ⟨tag, .readSetup item copy⟩ s) = _
    congr 1
    cases hi : Item.ofId item.toNat with
    | none =>
      refine requestArrives_replied (r := .readSetup item copy) h tag rfl ?_
      simp only [carryOut, takeReadSetup, hi, Answer.refusal]
    | some i =>
      have read {code : RespCode} {body : RespBody} (k : readItem p i copy (taken p s) = .of code body) :
          requestArrives p ⟨tag, .readSetup item copy⟩ s = replied p tag 14 code body (taken p s) := by
        refine requestArrives_replied (r := .readSetup item copy) h tag rfl ?_
        simp only [carryOut, takeReadSetup, hi, k]
      dsimp only
      by_cases h0 : copy = 0
      · rw [if_pos h0]
        exact read (if_pos h0)
      rw [if_neg h0]
      by_cases h1 : copy = 1
      · rw [if_pos h1]
        split <;> exact read ((if_neg h0).trans ((if_pos h1).trans (by simp [taken, *])))
      rw [if_neg h1]
      by_cases h2 : copy = 2
      · rw [if_pos h2]
        split <;> exact read ((if_neg h0).trans ((if_neg h1).trans ((if_pos h2).trans (by simp [taken, *]))))
      rw [if_neg h2]
      exact read ((if_neg h0).trans ((if_neg h1).trans (if_neg h2)))

/-- Settles O43: the effect of each request in the states that its rule names. -/
theorem standardizeNowAndClearFault : Obligations.StandardizeNowAndClearFault := by
  intro p tag s h flagged leaves
  have now {u : State} (k : standardizeEffect flagged = u) : leaves u :=
    congrArg _ (requestArrives_replied (r := .standardizeNow) h tag rfl (congrArg (·, Answer.done) k))
  refine ⟨fun hi ha => now ?_, fun hi ha => now ?_, fun hi => now ?_, fun hf hu => ?_, fun hc => ?_⟩
  · simp [standardizeEffect, flagged, hi, ha, enterStandardizing_eq]
  · simp [standardizeEffect, flagged, hi, ha]
  · unfold standardizeEffect
    split
    · exact absurd ‹_› hi
    · rfl
  · refine congrArg _ (requestArrives_replied (r := .clearFault) h tag rfl ?_)
    simp only [carryOut, takeClearFault]
    rw [if_pos ⟨hf, hu⟩]
    rfl
  · refine congrArg _ (requestArrives_replied (r := .clearFault) h tag rfl ?_)
    simp only [carryOut, takeClearFault]
    rw [if_neg]
    · rfl
    · rintro ⟨hf, hu⟩
      rcases hc with hc | hc
      · exact hc hf
      · exact Bool.false_ne_true (hc.symm.trans hu)

/-- Settles O25: the first condition of R12 that holds at the arrival. -/
theorem arrivalAtPark : Obligations.ArrivalAtPark := by
  intro number pos s hm hs a parked permits standardizes p
  have hp : (arrivedAt pos s).trav.state = .parking := hs
  have arrives : exec (.arrived number pos) s = .next (settle (Machine.arrivalAtPark (arrivedAt pos s))) := by
    rw [exec_arrived_taken pos hm (.inl hs), arrival, hp]
  have hperm : parked.permits = true ↔ permits := permits_iff
  have at_park : Machine.arrivalAtPark (arrivedAt pos s) =
      if standardizesAtPark parked then enterStandardizing parked else resume parked := by
    have hparked : parked = (arrivedAt pos s).onTrav (fun t =>
        { t with atPark := true, pos := if a.positionMode = .reckoned then a.parkPos else t.pos }) := by
      cases hmode : a.positionMode <;> simp [parked, arrivedAt, State.onTrav, a, hmode]
    rw [hparked]
    rfl
  have hstd : standardizesAtPark parked = true ↔ standardizes := by
    simp only [standardizesAtPark, Bool.and_eq_true, Bool.or_eq_true, decide_eq_true_eq, hperm, standardizes, parked]
  rw [arrives, at_park]
  refine ⟨fun h => ?_, fun h hi hq => ?_, fun h hi hq => ?_, fun h hq => ?_⟩
  · rw [if_pos (hstd.2 h), enterStandardizing_eq]
  · rw [if_neg (mt hstd.1 h), resume_scan (hperm.2 hq) hi]
  · rw [if_neg (mt hstd.1 h), resume_dwell (hperm.2 hq) hi, enterPositioning_dwell]
  · rw [if_neg (mt hstd.1 h), resume_idle]
    exact hq.imp id fun k => by simpa using mt hperm.1 k
end

section
namespace Sys2Proof.Machine

variable {s : State}

/-! ### Scans that end otherwise than COMPLETE (R17, R76) -/

/-- R76: the sets without the one that gathers, and no tracker. -/
theorem gatheringFreed_of {i : SetId} (hi : s.edge.accumulating = some i) :
    gatheringFreed s = { s with edge := { s.edge.set i AccSet.free with tracker := none } } := by
  simp only [gatheringFreed, hi]

/-- R17: the report of the end of scan `c`. -/
theorem scanEndNoted_of {c : CurScan} (code : EndCode) (hc : s.trav.cur = some c) :
    scanEndNoted code s =
      notify (.scanEnd c.number c.dir code) (count code.tally 1 { s with trav := { s.trav with cur := none } }) := by
  simp only [scanEndNoted, hc]
  cases code <;> rfl

/-- R17, R76: scan `c`, gathered by set `i`, ends. -/
theorem scanDropped_of {c : CurScan} {i : SetId} (code : EndCode) (hc : s.trav.cur = some c)
    (hi : s.edge.accumulating = some i) :
    scanDropped code s = scanEndApplied (notify (.scanEnd c.number c.dir code) (count code.tally 1
      { s with trav := { s.trav with cur := none }
               edge := { s.edge.set i AccSet.free with tracker := none } })) := by
  rw [scanDropped, gatheringFreed_of hi]
  exact congrArg _ (scanEndNoted_of code hc)

/-- R152: applying armed entries that are no line enables leaves the monitor as it is. -/
@[simp] theorem scanEndApplied_mon (u : State) : (scanEndApplied u).mon = u.mon :=
  (onlyNotices_appliedAt [] .scanEnd (scanEndPicks u.trav.scanNumber) u).mon

@[simp] theorem scanEndNoted_mon (code : EndCode) (u : State) : (scanEndNoted code u).mon = u.mon :=
  (onlyNotices_scanEndNoted code u).mon

@[simp] theorem gatheringFreed_mon (u : State) : (gatheringFreed u).mon = u.mon := by
  unfold gatheringFreed
  split <;> rfl

@[simp] theorem scanDropped_mon (code : EndCode) (u : State) : (scanDropped code u).mon = u.mon := by
  simp [scanDropped]

/-! ### The effects of the traverse requests (R11, R19, R20) -/

theorem startEffect_idle (hi : s.trav.state = .idle) (hp : s.permits = true) : startEffect s = idleStart .turnF s := by
  simp [startEffect, hi, hp]

theorem startEffect_break (hi : s.trav.state = .idle) (hp : s.permits = false) : startEffect s = s := by
  simp [startEffect, hi, hp]

theorem startEffect_dwelling (hi : s.trav.state = .dwelling) :
    startEffect s = enterPositioning (nearerTurn s) (s.setDwell DwellAcc.empty) := by
  simp [startEffect, hi]

theorem startEffect_other (hi : s.trav.state ≠ .idle) (hd : s.trav.state ≠ .dwelling) : startEffect s = s := by
  unfold startEffect
  split
  · exact absurd ‹_› hi
  · exact absurd ‹_› hd
  · rfl

theorem dwellEffect_idle (same : Bool) (hi : s.trav.state = .idle) (hp : s.permits = true) :
    dwellEffect same s = idleStart .dwellPos s := by
  simp [dwellEffect, hi, hp]

theorem dwellEffect_break (same : Bool) (hi : s.trav.state = .idle) (hp : s.permits = false) :
    dwellEffect same s = s := by
  simp [dwellEffect, hi, hp]

theorem dwellEffect_scanning (same : Bool) (hi : s.trav.state = .scanning) : dwellEffect same s =
    if (endScan .stopped s).permits then enterPositioning .dwellPos (endScan .stopped s)
    else park (endScan .stopped s) := by
  simp [dwellEffect, hi]

theorem dwellEffect_moving (same : Bool) (hi : s.trav.state = .turnWait ∨ s.trav.state = .positioning) :
    dwellEffect same s = enterPositioning .dwellPos s := by
  rcases hi with hi | hi <;> simp [dwellEffect, hi]

theorem dwellEffect_dwelling (same : Bool) (hi : s.trav.state = .dwelling) : dwellEffect same s =
    if same then s else enterPositioning .dwellPos (s.setDwell DwellAcc.empty) := by
  simp [dwellEffect, hi]

theorem dwellEffect_other (same : Bool)
    (hi : s.trav.state = .parking ∨ s.trav.state = .standardizing ∨ s.trav.state = .fault) :
    dwellEffect same s = s := by
  rcases hi with hi | hi | hi <;> simp [dwellEffect, hi]

theorem stopEffect_scanning (hi : s.trav.state = .scanning) : stopEffect s = park (endScan .stopped s) := by
  simp [stopEffect, hi]

theorem stopEffect_moving (hi : s.trav.state = .turnWait ∨ s.trav.state = .positioning) : stopEffect s = park s := by
  rcases hi with hi | hi <;> simp [stopEffect, hi]

theorem stopEffect_dwelling (hi : s.trav.state = .dwelling) : stopEffect s = park (s.setDwell DwellAcc.empty) := by
  simp [stopEffect, hi]

theorem stopEffect_other (hi : s.trav.state = .idle ∨ s.trav.state = .parking ∨ s.trav.state = .standardizing ∨
    s.trav.state = .fault) : stopEffect s = s := by
  rcases hi with hi | hi | hi | hi <;> simp [stopEffect, hi]

/-- R20: the request sets the intent and the clamped dwell position, and answers whether clamping changed it. -/
theorem takeDwellAt_eq {q : Nat} (at_ : BitVec 16)
    (hq : clampNat s.setup.active.turnF s.setup.active.turnD at_.toNat = q) :
    takeDwellAt at_ s =
      (dwellEffect (decide (q = s.trav.dwellPos)) { s with trav := { s.trav with intent := .dwell, dwellPos := q } },
        if q = at_.toNat then Answer.done else Answer.of .clamped (.position q)) := by
  subst hq
  rfl

/-! ### The turn points at a scan end (R137, R152) -/

/-- R137: the turn points are AT_STANDARDIZE items, which values of other classes leave. -/
theorem turns_put (a : Setup) (i : Item) (v : SetupValue) (h : i.cls ≠ .atStandardize) :
    (a.put i v).turnF = a.turnF ∧ (a.put i v).turnD = a.turnD := by
  have hF : i ≠ .turnF := by
    rintro rfl
    exact h (by decide)
  have hD : i ≠ .turnD := by
    rintro rfl
    exact h (by decide)
  cases i <;> cases v <;> first | exact ⟨rfl, rfl⟩ | exact absurd rfl hF | exact absurd rfl hD

theorem turns_foldl_put (l : List Armed) (a : Setup) (h : ∀ e ∈ l, e.item.cls ≠ .atStandardize) :
    (l.foldl (fun a e => a.put e.item e.value) a).turnF = a.turnF ∧
      (l.foldl (fun a e => a.put e.item e.value) a).turnD = a.turnD := by
  induction l generalizing a with
  | nil => exact ⟨rfl, rfl⟩
  | cons e rest ih =>
    obtain ⟨hF, hD⟩ := turns_put a e.item e.value (h e (by simp))
    obtain ⟨kF, kD⟩ := ih (a.put e.item e.value) fun x hx => h x (by simp [hx])
    exact ⟨kF.trans hF, kD.trans hD⟩

theorem scanEndApplied_turns (u : State) : (scanEndApplied u).setup.active.turnF = u.setup.active.turnF ∧
    (scanEndApplied u).setup.active.turnD = u.setup.active.turnD := by
  have e : (scanEndApplied u).setup = u.setup.appliedBy (scanEndPicks u.trav.scanNumber) := appliedAt_setup _ _ _
  rw [e]
  refine turns_foldl_put _ _ fun x hx => ?_
  have hp := (List.mem_filter.1 hx).2
  simp only [scanEndPicks, Bool.and_eq_true, decide_eq_true_eq] at hp
  exact hp.1

/-! ### Clamping to the turn points (R14, R20) -/

theorem clampNat_eq {lo hi : Nat} (v : Nat) (h : lo ≤ hi) : clampNat lo hi v = max lo (min hi v) := by
  unfold clampNat
  split
  · omega
  · split <;> omega

theorem clampNat_idem {lo hi : Nat} (v : Nat) (h : lo ≤ hi) : clampNat lo hi (clampNat lo hi v) = clampNat lo hi v := by
  rw [clampNat_eq _ h, clampNat_eq _ h]
  omega

/-- R14, R20: a dwell position between the turn points is where the head is sent. -/
theorem enterPositioning_dwell_of {q : Nat} (hq : s.trav.dwellPos = q)
    (hc : clampNat s.setup.active.turnF s.setup.active.turnD q = q) :
    enterPositioning .dwellPos s = sentTo .dwellPos q s := by
  subst hq
  rw [enterPositioning_dwell, hc]

end Sys2Proof.Machine

open Sys2Proof Sys2Proof.Machine

/-- Settles O40: the effect of SCAN START in each traverse state, from the state with the intent set. -/
theorem scanStartStartsTheFrame : Obligations.ScanStartStartsTheFrame := by
  intro p tag s h a ready permits wants emptied leaves
  have hready : curveReady (taken p s) = true ↔ ready := by
    simp [curveReady, ready, taken, a]
  have hperm : wants.permits = true ↔ permits := permits_iff
  have started {u : State} (hr : ready) (k : startEffect wants = u) : leaves u := by
    refine congrArg _ (requestArrives_replied (r := .scanStart) h tag rfl ?_)
    rw [carryOut, takeScanStart, if_pos (hready.2 hr)]
    exact congrArg (·, Answer.done) k
  have idle (hi : s.trav.state = .idle) (hq : permits) : startEffect wants = idleStart .turnF wants :=
    startEffect_idle hi (hperm.2 hq)
  have leads (hi : s.trav.state = .dwelling) : startEffect wants =
      if absDiff s.trav.pos a.turnF ≤ absDiff s.trav.pos a.turnD then sentTo .turnF a.turnF emptied
      else sentTo .turnD a.turnD emptied :=
    (startEffect_dwelling (s := wants) hi).trans (enterPositioning_nearer emptied)
  refine ⟨fun hr => ?_, fun hr => ⟨fun hi hq => ⟨fun ha => ?_, fun ha hd => ?_, fun ha hd => ?_⟩, fun hi hq => ?_,
    fun hi => ⟨fun hn => ?_, fun hn => ?_⟩, fun hi hd => ?_⟩⟩
  · refine congrArg _ (requestArrives_replied (r := .scanStart) h tag rfl ?_)
    rw [carryOut, takeScanStart, if_neg (mt hready.1 hr)]
    rfl
  · exact started hr ((idle hi hq).trans (idleStart_parks _ ha))
  · exact started hr ((idle hi hq).trans (idleStart_standardizes _ ha hd))
  · exact started hr ((idle hi hq).trans (idleStart_goes _ ha hd))
  · exact started hr (startEffect_break (s := wants) hi (by simpa using mt hperm.1 hq))
  · exact started hr ((leads hi).trans (if_pos hn))
  · exact started hr ((leads hi).trans (if_neg (not_le.2 hn)))
  · exact started hr (startEffect_other (s := wants) hi hd)

/-- Settles O41: the effect of SCAN STOP in each traverse state, from the state with the intent cleared. -/
theorem scanStopSendsTheHeadToPark : Obligations.ScanStopSendsTheHeadToPark := by
  intro p tag s h wants leaves
  have stopped {u : State} (k : stopEffect wants = u) : leaves u :=
    congrArg _ (requestArrives_replied (r := .scanStop) h tag rfl (congrArg (·, Answer.done) k))
  refine ⟨fun c i hs hc hi hl => stopped ?_, fun hs => stopped ?_, fun hs => stopped ?_, fun hs => stopped ?_⟩
  · have e : endScan .stopped wants = scanDropped .stopped wants :=
      endScan_eq .stopped wants (by decide) (by simp [wants, hc]) (by simp [wants, hs]) hl
    exact (stopEffect_scanning (s := wants) hs).trans
      (congrArg park (e.trans (scanDropped_of (s := wants) .stopped hc hi)))
  · exact stopEffect_moving hs
  · exact stopEffect_dwelling hs
  · exact stopEffect_other hs

/-- Settles O42: the effect of DWELL AT in each traverse state, from the state with the intent and the dwell position
set. -/
theorem dwellAtMovesTheHead : Obligations.DwellAtMovesTheHead := by
  intro p tag at_ s h hturns a q permits wants leaves
  have hq : clampNat a.turnF a.turnD at_.toNat = q := clampNat_eq _ hturns
  have hqq : clampNat a.turnF a.turnD q = q := hq ▸ clampNat_idem _ hturns
  have hperm : wants.permits = true ↔ permits := permits_iff
  have moved {u : State} (k : dwellEffect (decide (q = s.trav.dwellPos)) wants = u) : leaves u := by
    have answered : carryOut p tag (.dwellAt at_) (taken p s) =
        (u, if q = at_.toNat then Answer.done else Answer.of .clamped (.position q)) :=
      (takeDwellAt_eq (s := taken p s) at_ hq).trans (congrArg (·, _) k)
    change Host.Outcome.next (requestArrives p ⟨tag, .dwellAt at_⟩ s) = _
    by_cases he : q = at_.toNat
    · rw [if_pos he] at answered ⊢
      exact congrArg _ (requestArrives_replied h tag rfl answered)
    · rw [if_neg he] at answered ⊢
      exact congrArg _ (requestArrives_replied h tag rfl answered)
  have positioned {u : State} (hd : u.trav.dwellPos = q) (hs : u.setup = s.setup) :
      enterPositioning .dwellPos u = sentTo .dwellPos q u := enterPositioning_dwell_of hd (by rw [hs]; exact hqq)
  have idle (hi : s.trav.state = .idle) (hp : permits) :
      dwellEffect (decide (q = s.trav.dwellPos)) wants = idleStart .dwellPos wants :=
    dwellEffect_idle _ hi (hperm.2 hp)
  refine ⟨fun hi hp => ⟨fun ha => moved ?_, fun ha hd => moved ?_, fun ha hd => moved ?_⟩, fun hi hp => moved ?_,
    fun c i hi hc hset hl hp => moved ?_, fun hi => moved ?_, fun hi hd => moved ?_, fun hi hd => moved ?_,
    fun hi => moved ?_⟩
  · exact (idle hi hp).trans (idleStart_parks _ ha)
  · exact (idle hi hp).trans (idleStart_standardizes _ ha hd)
  · exact (idle hi hp).trans ((idleStart_goes (s := wants) _ ha hd).trans (positioned rfl rfl))
  · exact dwellEffect_break (s := wants) _ hi (by simpa using mt hperm.1 hp)
  · have e : endScan .stopped wants = scanDropped .stopped wants :=
      endScan_eq .stopped wants (by decide) (by simp [wants, hc]) (by simp [wants, hi]) hl
    have hp' : (scanDropped .stopped wants).permits = true := by
      rw [State.permits, scanDropped_mon]
      exact hperm.2 hp
    have d := scanDropped_of (s := wants) .stopped hc hset
    refine (dwellEffect_scanning (s := wants) _ hi).trans ?_
    rw [e, if_pos hp', d]
    refine enterPositioning_dwell_of (by simp [scanEndApplied, wants]) ?_
    obtain ⟨hF, hD⟩ := scanEndApplied_turns (notify (.scanEnd c.number c.dir EndCode.stopped)
      (count EndCode.stopped.tally 1 { wants with
        trav := { wants.trav with cur := none }
        edge := { wants.edge.set i AccSet.free with tracker := none } }))
    rw [hF, hD]
    simp only [notify_setup, count_setup]
    exact hqq
  · exact (dwellEffect_moving (s := wants) _ hi).trans (positioned rfl rfl)
  · exact (dwellEffect_dwelling (s := wants) _ hi).trans (if_pos (by simp [hd]))
  · exact (dwellEffect_dwelling (s := wants) _ hi).trans
      ((if_neg (by simpa using Ne.symm hd)).trans (positioned rfl rfl))
  · exact dwellEffect_other (s := wants) _ hi
end

section
namespace Sys2Proof.Machine

variable {s : State}

/-! ### Scan starts (R15, R18) -/

/-- R74: the set a scan start claims. -/
theorem freeSet_eq_some {e : EdgeUnit} {i : SetId} : e.freeSet = some i ↔
    (i = .x ∧ e.x.state = .free) ∨ (i = .y ∧ e.x.state ≠ .free ∧ e.y.state = .free) := by
  unfold EdgeUnit.freeSet
  cases i <;> split <;> simp_all

theorem freeSet_eq_none {e : EdgeUnit} : e.freeSet = none ↔ e.x.state ≠ .free ∧ e.y.state ≠ .free := by
  unfold EdgeUnit.freeSet
  split <;> simp_all

theorem startScan_begins {i : SetId} (dir : Dir) (hi : s.edge.freeSet = some i) (hn : s.trav.scanNumber < max32) :
    startScan dir s = scanBegun i dir s := by
  simp only [startScan, hi, if_neg (not_le.2 hn), runScan_eq]

theorem startScan_waits (dir : Dir) (hi : s.edge.freeSet = none) :
    startScan dir s = changeState .turnWait { s with trav := { s.trav with target := some dir.startPoint } } := by
  simp only [startScan, hi, State.onTrav]

theorem startScan_faults {i : SetId} (dir : Dir) (hi : s.edge.freeSet = some i) (hn : max32 ≤ s.trav.scanNumber) :
    startScan dir s = headFault s := by
  simp only [startScan, hi, if_pos hn]

/-! ### Arrival at a target (R14) -/

theorem arrivalAtTarget_scan {t : MoveTarget} (ht : s.trav.target = some t) (hi : s.trav.intent = .scan) :
    arrivalAtTarget s =
      if s.targetPos t = s.setup.active.turnF then startScan .fwd s
      else if s.targetPos t = s.setup.active.turnD then startScan .rev s
      else enterPositioning (nearerTurn s) s := by
  simp only [arrivalAtTarget, ht, hi]

theorem arrivalAtTarget_dwell {t : MoveTarget} (ht : s.trav.target = some t) (hi : s.trav.intent = .dwell) :
    arrivalAtTarget s =
      if s.targetPos t = s.trav.dwellPos then changeState .dwelling (s.setDwell .empty)
      else enterPositioning .dwellPos s := by
  simp only [arrivalAtTarget, ht, hi, State.setDwell]

end Sys2Proof.Machine

open Sys2Proof Sys2Proof.Machine

/-- Settles O27: R14's table, with the outcomes of a scan start for its two turn points. -/
theorem arrivalAtATurnPointStartsAScan : Obligations.ArrivalAtATurnPointStartsAScan := by
  intro number pos s target hm hs ht a arrived leaves stands starts p
  have arrives {u : State} (k : arrivalAtTarget arrived = u) : leaves u := by
    rw [← k]
    refine (exec_arrived_taken pos hm (.inr (.inl hs))).trans ?_
    have hp : (arrivedAt pos s).trav.state = .positioning := hs
    rw [arrival, hp]
    rfl
  have hstands : arrived.targetPos target = stands := by cases target <;> rfl
  have started (dir : Dir) (near : MoveTarget) (hn : dir.startPoint = near)
      (k : arrivalAtTarget arrived = startScan dir arrived) : starts dir near := by
    subst hn
    refine ⟨fun i hi hlt => arrives (k.trans (startScan_begins dir ?_ hlt)),
      fun hx hy => arrives (k.trans (startScan_waits dir (freeSet_eq_none.2 ⟨hx, hy⟩))),
      fun hfree htop => arrives (k.trans ?_)⟩
    · exact freeSet_eq_some.2 hi
    · cases hset : s.edge.freeSet with
      | none =>
        obtain ⟨hx, hy⟩ := freeSet_eq_none.1 hset
        exact absurd hfree (by simp [hx, hy])
      | some i => exact startScan_faults dir hset (le_of_eq htop.symm)
  refine ⟨fun hi => ?_, fun hi => ?_⟩
  · have k := arrivalAtTarget_scan (s := arrived) ht hi
    rw [hstands] at k
    refine ⟨fun hF => started _ _ rfl (k.trans (if_pos hF)),
      fun hF hD => started _ _ rfl (k.trans ((if_neg hF).trans (if_pos hD))), fun hF hD => ?_⟩
    have nearer := k.trans ((if_neg hF).trans ((if_neg hD).trans (enterPositioning_nearer arrived)))
    exact ⟨fun hn => arrives (nearer.trans (if_pos hn)), fun hn => arrives (nearer.trans (if_neg (not_le.2 hn)))⟩
  · have k := arrivalAtTarget_dwell (s := arrived) ht hi
    rw [hstands] at k
    exact ⟨fun he => arrives (k.trans (if_pos he)), fun he => arrives (k.trans (if_neg he))⟩
end

section
namespace Sys2Proof.Machine

variable {s : State} {f : SampleFrame}

/-! ### A sample at its place (R5) -/

/-- R3 to R5: all that the way of a sample to its place leaves as it was. -/
theorem onlyNotices_placed (f : SampleFrame) (s : State) :
    OnlyNotices [.samplesMissing]
      { s with
        link := { s.link with up := true, silence := some s.setup.active.headTimeout, lastSeq := some f.seq }
        trav := (placed f s).trav } (placed f s) := by
  have h := onlyNotices_gapChecked f s
  exact { h with trav := rfl, ports := h.ports }

@[simp] theorem placed_link (f : SampleFrame) (s : State) : (placed f s).link =
    { s.link with up := true, silence := some s.setup.active.headTimeout, lastSeq := some f.seq } :=
  (onlyNotices_placed f s).link
@[simp] theorem placed_std (f : SampleFrame) (s : State) : (placed f s).std = s.std := (onlyNotices_placed f s).std
@[simp] theorem placed_edge (f : SampleFrame) (s : State) : (placed f s).edge = s.edge := (onlyNotices_placed f s).edge
@[simp] theorem placed_ring (f : SampleFrame) (s : State) : (placed f s).ring = s.ring := (onlyNotices_placed f s).ring
@[simp] theorem placed_mon (f : SampleFrame) (s : State) : (placed f s).mon = s.mon := (onlyNotices_placed f s).mon
@[simp] theorem placed_alarms (f : SampleFrame) (s : State) : (placed f s).alarms = s.alarms :=
  (onlyNotices_placed f s).alarms
@[simp] theorem placed_setup (f : SampleFrame) (s : State) : (placed f s).setup = s.setup :=
  (onlyNotices_placed f s).setup
@[simp] theorem placed_carriageTx (f : SampleFrame) (s : State) : (placed f s).carriageTx = s.carriageTx :=
  (onlyNotices_placed f s).carriageTx
@[simp] theorem placed_freeCount (f : SampleFrame) (s : State) : (placed f s).freeCount = s.freeCount :=
  (onlyNotices_placed f s).freeCount
@[simp] theorem placed_pending (f : SampleFrame) (s : State) : (placed f s).pending = s.pending :=
  (onlyNotices_placed f s).pending

/-- R5: of the traverse controller, only the position changes. -/
theorem placed_trav (f : SampleFrame) (s : State) :
    (placed f s).trav = { s.trav with pos := (placed f s).trav.pos } := rfl

/-! ### Where a sample goes (R4, R21, R29, R59) -/

theorem deliver_nowhere (h : s.trav.state = .idle ∨ s.trav.state = .parking ∨ s.trav.state = .positioning ∨
    s.trav.state = .turnWait ∨ s.trav.state = .fault) : deliver f s = s := by
  rcases h with h | h | h | h | h <;> simp [deliver, h]

theorem deliver_scanning {i : SetId} {k : Tracker} (h : s.trav.state = .scanning)
    (hi : s.edge.accumulating = some i) (hk : s.edge.tracker = some k) :
    deliver f s = match convert s.std.current s.setup.active f s.trav.pos with
      | none => count .samplesRejected 1 s
      | some c =>
        if isAir (s.edge.get i).snap.airThreshold c.t then airSampleStep i k c s else sheetSample i k c s := by
  simp only [deliver, h, scanSample, hi, hk] <;> rfl

theorem deliver_dwelling (h : s.trav.state = .dwelling) : deliver f s = dwellSample f s := by
  simp only [deliver, h]

theorem deliver_standardizing {x : StdFlight} (h : s.trav.state = .standardizing) (hx : s.std.flight = some x) :
    deliver f s = stdAdvance (x.take f) s := by
  simp only [deliver, h, stdSample, hx]

/-- R47: what cannot be converted. -/
theorem convert_none {current : Option StdRecord} {a : Setup} {pos : Nat}
    (h : current = none ∨ a.bwCurve = none ∨ sourceOk f = false ∨ shutterOpen f = false) :
    convert current a f pos = none := by
  unfold convert
  split
  · rcases h with h | h | h | h
    · simp_all
    · simp_all
    · simp [h]
    · simp [h]
  · rfl

end Sys2Proof.Machine

open Sys2Proof Sys2Proof.Machine

/-- Settles O14: the place of the sample, and its destination there. -/
theorem samplesThatGoNoFurther : Obligations.SamplesThatGoNoFurther := by
  intro f s hseq hF hD missing linked counted low step pos placed'
  have arrives := exec_sample_placed (s := s) hseq hF hD
  refine ⟨fun hs => ?_, fun hs hc => ?_⟩
  · rw [arrives, deliver_nowhere (s := placed f s) hs]
    rfl
  · have hn : convert (placed f s).std.current (placed f s).setup.active f (placed f s).trav.pos = none := by
      rw [placed_std, placed_setup]
      exact convert_none hc
    rw [arrives]
    rcases hs with hs | ⟨hs, hi, hk⟩
    · rw [deliver_dwelling (s := placed f s) hs, dwellSample, hn]
      rfl
    · obtain ⟨i, hi⟩ := Option.isSome_iff_exists.1 hi
      obtain ⟨k, hk⟩ := Option.isSome_iff_exists.1 hk
      rw [deliver_scanning (s := placed f s) hs (by rwa [placed_edge]) (by rwa [placed_edge]), hn]
      rfl
end

section
namespace Sys2Proof.Machine

variable {s : State} {f : SampleFrame} {x : StdFlight}

/-! ### The phases of a standardization (R29 to R31) -/

theorem stdAdvance_goes {y : StdFlight} (hy : y.phaseOver = false) :
    stdAdvance y s = { s with std := { s.std with flight := some y } } := by
  simp only [stdAdvance, hy, Bool.false_eq_true, if_false, State.onStd]

theorem stdAdvance_begins {y : StdFlight} {p : Phase} (hy : y.phaseOver = true) (hp : y.phase.after = some p) :
    stdAdvance y s = issue p.command { s with std := { s.std with flight := some (y.enter p) } } := by
  simp only [stdAdvance, hy, if_true, hp, State.onStd]

/-- R29: in DARK and AIR a settling sample with the wrong shutter is passed over. -/
theorem take_passed (hp : x.phase.looksAtShutter = true) (hc : x.counting = false) (hm : x.phase.meets f = false) :
    x.take f = { x with taken := x.taken + 1, counting := decide (x.samples ≤ x.taken + 1) } := by
  simp [StdFlight.take, hp, hc, hm]

/-- R29, R31: in DARK and AIR any other sample is counted. -/
theorem take_counted (hp : x.phase.looksAtShutter = true) (h : x.counting = true ∨ x.phase.meets f = true) :
    x.take f = { { x with taken := x.taken + 1 }.add f with
      counting := true, shutterError := x.shutterError || !x.phase.meets f } := by
  have hg : (x.counting || x.phase.meets f) = true := by simpa using h
  simp only [StdFlight.take, hp, if_true, hg]

/-- R30: in a ZERO phase a sample of its range is counted. -/
theorem take_ranged (hp : x.phase.looksAtShutter = false) : x.take f =
    if x.phase.meets f then { { x with taken := x.taken + 1 }.add f with counting := true }
    else { x with taken := x.taken + 1 } := by
  simp only [StdFlight.take, hp, Bool.false_eq_true, if_false]

theorem meets_zeroF : Phase.zeroF.meets f = !f.flags.getLsbD 5 := by
  unfold Phase.meets calRange
  cases f.flags.getLsbD 5 <;> rfl

theorem meets_zeroC : Phase.zeroC.meets f = f.flags.getLsbD 5 := by
  unfold Phase.meets calRange
  cases f.flags.getLsbD 5 <;> rfl

theorem add_dark (hp : x.phase = .dark) :
    x.add f = { x with nDark := x.nDark + 1, sDark := x.sDark + f.bwCount.toNat % 1048576 } := by
  simp only [StdFlight.add, hp, countField]

theorem add_air (hp : x.phase = .air) :
    x.add f = { x with nAir := x.nAir + 1, sAirBw := x.sAirBw + f.bwCount.toNat % 1048576,
                       sAirAbs := x.sAirAbs + f.irAbs.toNat % 1048576,
                       sAirRef := x.sAirRef + f.irRef.toNat % 1048576 } := by
  simp only [StdFlight.add, hp, countField]

theorem add_zeroF (hp : x.phase = .zeroF) :
    x.add f = { x with nFine := x.nFine + 1, sFine := x.sFine + f.calRaw.toInt } := by
  simp only [StdFlight.add, hp, calRaw]

theorem add_zeroC (hp : x.phase = .zeroC) :
    x.add f = { x with nCoarse := x.nCoarse + 1, sCoarse := x.sCoarse + f.calRaw.toInt } := by
  simp only [StdFlight.add, hp, calRaw]

theorem phaseOver_dark (hp : x.phase = .dark) : x.phaseOver = decide (x.samples ≤ x.nDark) := by
  simp only [StdFlight.phaseOver, StdFlight.counted, hp]

theorem phaseOver_air (hp : x.phase = .air) : x.phaseOver = decide (x.samples ≤ x.nAir) := by
  simp only [StdFlight.phaseOver, StdFlight.counted, hp]

theorem phaseOver_zeroF (hp : x.phase = .zeroF) :
    x.phaseOver = (decide (x.samples / 4 ≤ x.nFine) || decide (x.samples ≤ x.taken)) := by
  simp only [StdFlight.phaseOver, StdFlight.counted, hp]

theorem phaseOver_zeroC (hp : x.phase = .zeroC) :
    x.phaseOver = (decide (x.samples / 4 ≤ x.nCoarse) || decide (x.samples ≤ x.taken)) := by
  simp only [StdFlight.phaseOver, StdFlight.counted, hp]

end Sys2Proof.Machine

open Sys2Proof Sys2Proof.Machine

/-- Settles O22: per phase, what the sample makes of the flight, and whether the phase is then over. -/
theorem darkPhaseCountsItsSamples : Obligations.DarkPhaseCountsItsSamples := by
  intro f s x hs hx hseq hF hD open_ fine flying goesOn begins passed dark air zeroF zeroC
  have arrives : exec (.sample f) s = .next (settle (stdAdvance (x.take f) (placed f s))) := by
    rw [exec_sample_placed hseq hF hD, deliver_standardizing (s := placed f s) hs (by rwa [placed_std])]
  have goes {y : StdFlight} (ht : x.take f = y) (ho : y.phaseOver = false) : goesOn y := by
    rw [← ht] at ho ⊢
    refine arrives.trans ?_
    rw [stdAdvance_goes ho, placed_std]
  have starts {c : HeadCmd} {p : Phase} {y : StdFlight} (ht : x.take f = y) (ho : y.phaseOver = true)
      (hp : y.phase.after = some p) (hc : p.command = c) : begins c p y := by
    rw [← ht, ← hc] at *
    refine arrives.trans ?_
    rw [stdAdvance_begins ho hp, placed_std]
    rfl
  refine ⟨fun hp => ?_, fun hp => ?_, fun hp => ?_, fun hp hn ht => ?_⟩
  · have hl : x.phase.looksAtShutter = true := by rw [hp]; rfl
    have hm : x.phase.meets f = !open_ := by rw [hp]; rfl
    have counted (h : x.counting = true ∨ open_ = false) : x.take f = dark := by
      rw [take_counted hl (by simpa [hm] using h), add_dark (x := { x with taken := x.taken + 1 }) hp, hm, Bool.not_not]
    refine ⟨fun hc ho hn => goes (take_passed hl hc (by simp [hm, ho])) ?_, fun hc hn => goes (counted hc) ?_,
      fun hc hn => starts (counted hc) ?_ ?_ rfl⟩
    · exact (phaseOver_dark (x := passed) hp).trans (decide_eq_false (not_le.2 hn))
    · exact (phaseOver_dark (x := dark) hp).trans (decide_eq_false (not_le.2 hn))
    · exact (phaseOver_dark (x := dark) hp).trans (decide_eq_true hn)
    · simp only [dark, hp, Phase.after]
  · have hl : x.phase.looksAtShutter = true := by rw [hp]; rfl
    have hm : x.phase.meets f = open_ := by rw [hp]; rfl
    have counted (h : x.counting = true ∨ open_ = true) : x.take f = air := by
      rw [take_counted hl (by simpa [hm] using h), add_air (x := { x with taken := x.taken + 1 }) hp, hm]
    refine ⟨fun hc ho hn => goes (take_passed hl hc (by simp [hm, ho])) ?_, fun hc hn => goes (counted hc) ?_,
      fun hc hn => starts (counted hc) ?_ ?_ rfl⟩
    · exact (phaseOver_air (x := passed) hp).trans (decide_eq_false (not_le.2 hn))
    · exact (phaseOver_air (x := air) hp).trans (decide_eq_false (not_le.2 hn))
    · exact (phaseOver_air (x := air) hp).trans (decide_eq_true hn)
    · simp only [air, hp, Phase.after]
  · have hl : x.phase.looksAtShutter = false := by rw [hp]; rfl
    have hm : x.phase.meets f = fine := by rw [hp, meets_zeroF]
    have taken : x.take f = zeroF := by
      rw [take_ranged hl, add_zeroF (x := { x with taken := x.taken + 1 }) hp, hm]
    obtain ⟨hphase, hsamples, htaken⟩ :
        zeroF.phase = .zeroF ∧ zeroF.samples = x.samples ∧ zeroF.taken = x.taken + 1 := by
      simp only [zeroF]
      split <;> exact ⟨hp, rfl, rfl⟩
    have hover := phaseOver_zeroF hphase
    rw [hsamples, htaken] at hover
    exact ⟨fun hn ht => goes taken (by simp [hover, hn, ht]),
      fun h => starts taken (by simpa [hover] using h) (by rw [hphase]; rfl) rfl⟩
  · have hl : x.phase.looksAtShutter = false := by rw [hp]; rfl
    have hm : x.phase.meets f = !fine := by rw [hp, meets_zeroC, Bool.not_not]
    have taken : x.take f = zeroC := by
      rw [take_ranged hl, add_zeroC (x := { x with taken := x.taken + 1 }) hp, hm]
      rcases Bool.eq_false_or_eq_true fine with h | h <;> simp [zeroC, h]
    obtain ⟨hphase, hsamples, htaken⟩ :
        zeroC.phase = .zeroC ∧ zeroC.samples = x.samples ∧ zeroC.taken = x.taken + 1 := by
      simp only [zeroC]
      split <;> exact ⟨hp, rfl, rfl⟩
    refine goes taken ?_
    rw [phaseOver_zeroC hphase, hsamples, htaken]
    simp [hn, ht]
end

section
namespace Sys2Proof.Machine

variable {s u : State} {f : SampleFrame} {i : SetId} {k : Tracker} {c : Converted}

theorem countTimes_eq_iterate (id : TallyId) (n : Nat) (s : State) : countTimes id n s = (count id 1)^[n] s := by
  induction n generalizing s with
  | zero => rfl
  | succ n ih => exact ih _

/-! ### The bin of a sample (R69 to R72) -/

theorem binOf_off {x : Snapshot} {pos : Nat}
    (h : pos < x.binOrigin ∨ x.binOrigin + x.binCount * x.binWidth ≤ pos) : binOf x pos = none := by
  refine if_neg fun hpos => ?_
  omega

theorem binOf_grid {x : Snapshot} {pos j : Nat} (hj : j < x.binCount) (hlo : x.binOrigin + j * x.binWidth ≤ pos)
    (hhi : pos < x.binOrigin + (j + 1) * x.binWidth) : binOf x pos = some j := by
  have hle : (j + 1) * x.binWidth ≤ x.binCount * x.binWidth := Nat.mul_le_mul_right _ hj
  have hdiv : (pos - x.binOrigin) / x.binWidth = j := Nat.div_eq_of_lt_le (by omega) (by omega)
  rw [binOf, if_pos (by omega), hdiv]

/-- R70: the sample lies behind the fill pointer. -/
abbrev Behind (dir : Dir) (fill : Option Nat) (j : Nat) : Prop :=
  ∃ p, fill = some p ∧ (dir = .fwd ∧ j + 1 < p ∨ dir = .rev ∧ p + 1 < j)

theorem fillStep_behind {dir : Dir} {fill : Option Nat} {j : Nat} (h : Behind dir fill j) :
    fillStep dir fill j = none := by
  obtain ⟨p, rfl, ⟨rfl, hp⟩ | ⟨rfl, hp⟩⟩ := h
  · exact if_neg (not_le.2 hp)
  · exact if_neg (not_le.2 hp)

/-- R70: the fill pointer after an accepted sample. -/
def filledTo (dir : Dir) (fill : Option Nat) (j : Nat) : Nat :=
  match fill, dir with
  | none, _ => j
  | some p, .fwd => max p j
  | some p, .rev => min p j

theorem fillStep_within {dir : Dir} {fill : Option Nat} {j : Nat} (h : ¬ Behind dir fill j) :
    fillStep dir fill j = some (filledTo dir fill j) := by
  cases fill with
  | none => rfl
  | some p =>
    cases dir with
    | fwd => exact if_pos (not_lt.1 fun hp => h ⟨p, rfl, .inl ⟨rfl, hp⟩⟩)
    | rev => exact if_pos (not_lt.1 fun hp => h ⟨p, rfl, .inr ⟨rfl, hp⟩⟩)

/-! The sample meets the sets as `e` holds them; of the unit, only the tracker may differ. -/

section

variable {e : EdgeUnit} {t : Option Tracker} (he : u.edge = { e with tracker := t })
include he

theorem get_of_tracked : u.edge.get i = e.get i := by rw [he, EdgeUnit.get_tracker]

theorem binStage_off (h : binOf (e.get i).snap c.pos = none) : binStage i k c u = count .samplesRejected 1 u := by
  simp only [binStage, get_of_tracked he, h]

theorem binStage_behind {j : Nat} (hj : binOf (e.get i).snap c.pos = some j) (hb : Behind (e.get i).dir k.fill j) :
    binStage i k c u = count .samplesRejected 1 u := by
  simp only [binStage, get_of_tracked he, hj, fillStep_behind hb]

/-- R70 to R72: an accepted sample with its bin, the fill pointer and the counts of saturations. -/
theorem binStage_added {j : Nat} {b : Bin} (hj : binOf (e.get i).snap c.pos = some j)
    (hw : ¬ Behind (e.get i).dir k.fill j) (hb : (e.get i).bins[j]? = some b)
    (ha : (e.get i).accepted ≠ BitVec.allOnes 32) :
    binStage i k c u = (count .binSaturations 1)^[b.saturations c]
      { u with edge := { e.set i { e.get i with bins := (e.get i).bins.set j (b.add c)
                                                accepted := (e.get i).accepted + 1 } with
                         tracker := some { k with fill := some (filledTo (e.get i).dir k.fill j) } } } := by
  have hmod : (e.get i).bins.modify j (fun b => b.add c) = (e.get i).bins.set j (b.add c) := by
    rw [List.modify_eq_set_getElem?, hb]
    rfl
  have hget : (e.get i).bins.getD j Bin.empty = b := by rw [List.getD, hb]; rfl
  simp only [binStage, get_of_tracked he, hj, fillStep_within hw, addToBin, countTimes_eq_iterate]
  cases i <;> simp_all [EdgeUnit.get, EdgeUnit.set, acceptedAfter]

end

/-! ### A SHEET sample (R59 to R65) -/

/-- R61, R62: stages 2 and 4 for a SHEET sample with no air run before it. -/
theorem lead_sheet_eq (edgeRun pos : Nat) (hk : k.air = none) :
    (k.lead edgeRun pos false).sheet pos =
      if k.leading.isSome then { k with trailing := some pos }
      else
        let first := if k.sheetRun = 0 then pos else k.sheetFirst.getD pos
        if k.sheetRun + 1 < edgeRun then { k with sheetRun := k.sheetRun + 1, sheetFirst := some first }
        else { k with sheetRun := 0, sheetFirst := none, leading := some first, trailing := some pos } := by
  cases hl : k.leading with
  | some a => simp [Tracker.lead, Tracker.sheet, hl, ← hk]
  | none =>
    by_cases hr : edgeRun ≤ k.sheetRun + 1
    · simp [Tracker.lead, Tracker.leadSheet, Tracker.sheet, hl, hr, not_lt.2 hr, ← hk]
    · simp [Tracker.lead, Tracker.leadSheet, Tracker.sheet, hl, hr, not_le.1 hr]

theorem sheetSample_noAir (hk : k.air = none) :
    sheetSample i k c u =
      binStage i ((k.lead (u.edge.get i).snap.edgeRun c.pos false).sheet c.pos) c
        { u with edge := { u.edge with
            tracker := some ((k.lead (u.edge.get i).snap.edgeRun c.pos false).sheet c.pos) } } := by
  simp [sheetSample, hk, State.onEdge]

/-- R65: a SHEET sample that ends an air run, which may be a hole. -/
theorem sheetSample_air {run : AirRun} (hl : k.leading.isSome = true) (hr : k.air = some run) :
    let trailed : Tracker := { k with air := none, trailing := some c.pos }
    let tracked : State := { u with edge := { u.edge with tracker := some trailed } }
    sheetSample i k c u = binStage i trailed c
      (if (u.edge.get i).snap.holeMin ≤ run.count ∧ run.reach = false then
        raiseAlarm .hole none (u.edge.get i).scan (some run.first) (count .holes 1 tracked)
      else tracked) := by
  have hlead : k.lead (u.edge.get i).snap.edgeRun c.pos false = k := by simp [Tracker.lead, hl]
  have hsheet : k.sheet c.pos = { k with air := none, trailing := some c.pos } := by simp [Tracker.sheet, hl]
  dsimp only
  simp only [sheetSample, hlead, hsheet, hl, if_true, hr, State.onEdge, Option.filter_some, AirRun.isHole]
  by_cases hh : (u.edge.get i).snap.holeMin ≤ run.count ∧ run.reach = false
  · simp [hh, EdgeUnit.get_tracker]
  · have hno : (decide ((u.edge.get i).snap.holeMin ≤ run.count) && !run.reach) = false := by simpa using hh
    simp [hh, hno]

/-- R59: a sample in SCANNING that is converted goes on as AIR or as SHEET. -/
theorem exec_sample_scanning (hs : s.trav.state = .scanning) (hi : s.edge.accumulating = some i)
    (hk : s.edge.tracker = some k) (hseq : s.link.lastSeq ≠ some f.seq) (hF : indexFFlag f = false)
    (hD : indexDFlag f = false) (hc : convert s.std.current s.setup.active f (placed f s).trav.pos = some c) :
    exec (.sample f) s = .next (settle
      (if (s.edge.get i).snap.airThreshold ≤ c.t then airSampleStep i k c (placed f s)
      else sheetSample i k c (placed f s))) := by
  rw [exec_sample_placed hseq hF hD,
    deliver_scanning (s := placed f s) hs (by rwa [placed_edge]) (by rwa [placed_edge])]
  simp only [placed_std, placed_setup, hc, placed_edge, isAir, decide_eq_true_eq]

/-- R69 to R72: the bin of a SHEET sample, in the terms of the statements. -/
theorem Bin.add_eq (b : Bin) (c : Converted) :
    let wd := c.water.getD (0, 0)
    let bw := decide (b.nBw < 4095)
    let mo := c.water.isSome && decide (b.nMo < 4095)
    let ca := c.cal.isSome && decide (b.nCa < 4095)
    b.add c =
      { nBw := b.nBw + bw.toNat, sBw := if bw then b.sBw + c.bw else b.sBw
        nMo := b.nMo + mo.toNat, sW := if mo then b.sW + wd.1 else b.sW, sD := if mo then b.sD + wd.2 else b.sD
        nCa := b.nCa + ca.toNat, sC := if ca then b.sC + c.cal.getD 0 else b.sC } := by
  obtain ⟨pos, t, bw, water, cal⟩ := c
  by_cases hbw : b.nBw < 4095 <;> by_cases hmo : b.nMo < 4095 <;> by_cases hca : b.nCa < 4095 <;>
    rcases water with _ | ⟨w, d⟩ <;> cases cal <;> simp [Bin.add, binTop, hbw, hmo, hca]

theorem Bin.saturations_eq (b : Bin) (c : Converted) :
    let bw := decide (b.nBw < 4095)
    let mo := c.water.isSome && decide (b.nMo < 4095)
    let ca := c.cal.isSome && decide (b.nCa < 4095)
    b.saturations c = (!bw).toNat + (c.water.isSome && !mo).toNat + (c.cal.isSome && !ca).toNat := by
  have saturated (part : Bool) (n : Nat) :
      (if part ∧ ¬ n < binTop then 1 else 0) = (part && !(part && decide (n < 4095))).toNat := by
    by_cases h : n < 4095 <;> cases part <;> simp [binTop, h]
  have hbw := saturated true b.nBw
  simp only [true_and, ite_not, Bool.true_and] at hbw
  rw [Bin.saturations, saturated, saturated, hbw]

end Sys2Proof.Machine

open Sys2Proof Sys2Proof.Machine

/-- Settles O19: the tracker and the alarm of the air run's end, and then the bin stage. -/
theorem holesAreCountedAndAlarmed : Obligations.HolesAreCountedAndAlarmed := by
  intro f s i k c run hs hi hk hl hr hseq hF hD hc set x ht trailed tracked noted rejected
  have arrives {u : State} (h : binStage i trailed c noted = u) : exec (.sample f) s = .next (settle u) := by
    rw [exec_sample_scanning hs hi hk hseq hF hD hc, if_neg (not_le.2 ht), sheetSample_air hl hr, placed_edge, ← h]
  have he : noted.edge = { s.edge with tracker := some trailed } := by
    simp only [noted]
    split <;> simp [tracked]
  exact ⟨fun hoff => arrives (binStage_off he (binOf_off hoff)), fun j b hj hb hlo hhi =>
    ⟨fun h => arrives (binStage_behind he (binOf_grid hj hlo hhi) h),
      fun h ha => arrives (binStage_added he (binOf_grid hj hlo hhi) h hb ha)⟩⟩

/-- Settles O18: the tracker of stages 2 and 4, and then the bin stage. -/
theorem sheetSamplesEnterTheirBin : Obligations.SheetSamplesEnterTheirBin := by
  intro f s i k c hs hi hk hr hseq hF hD hc set x tracked with_ rejected ht
  have htracked : (k.lead x.edgeRun c.pos false).sheet c.pos = tracked := lead_sheet_eq x.edgeRun c.pos hr
  have hfill : tracked.fill = k.fill := by
    simp only [tracked]
    split
    · rfl
    · split <;> rfl
  let u := with_ { s.edge with tracker := some tracked }
  have arrives {v : State} (h : binStage i tracked c u = v) : exec (.sample f) s = .next (settle v) := by
    rw [exec_sample_scanning hs hi hk hseq hF hD hc, if_neg (not_le.2 ht), sheetSample_noAir hr, placed_edge,
      htracked, ← h]
  have he : u.edge = { s.edge with tracker := some tracked } := rfl
  refine ⟨fun hoff => arrives (binStage_off he (binOf_off hoff)), fun j b hj hb hlo hhi =>
    ⟨fun h => arrives (binStage_behind he (binOf_grid hj hlo hhi) (by rwa [hfill])), fun h ha => arrives ?_⟩⟩
  rw [binStage_added he (binOf_grid hj hlo hhi) (by rwa [hfill]) hb ha, Bin.add_eq, Bin.saturations_eq, hfill]
  rfl
end

section
namespace Sys2Proof.Machine

variable {s u : State} {f : SampleFrame}

/-! ### Index marks (R5, R6) -/

/-- R5: where a taken sample is placed. -/
def placeOf (f : SampleFrame) (s : State) : Nat :=
  match s.setup.active.positionMode with
  | .encoder => min f.pos.toNat 32767
  | .reckoned => (max 0 (min 32767 ((s.trav.pos : Int) +
      (if f.pos.toNat % 128 < 64 then ((f.pos.toNat % 128 : Nat) : Int) else (f.pos.toNat % 128 : Nat) - 128)))).toNat

theorem placed_pos (f : SampleFrame) (s : State) : (placed f s).trav.pos = placeOf f s := rfl

/-- R5: the place does not depend on the index flags, so that it is the one of a sample without them. -/
theorem reckoned_gapChecked (f : SampleFrame) (s : State) : reckoned f (gapChecked f s) = placeOf f s := by
  have h := reckon_eq { f with flags := 0 } s (by simp [indexFFlag]) (by simp [indexDFlag])
  rw [takeSeq_eq] at h
  simp only [reckon, State.setPos_setup, markOf, indexFFlag, indexDFlag, BitVec.ofNat_eq_ofNat, BitVec.getLsbD_zero,
    Bool.false_eq_true, if_false] at h
  exact congrArg (fun u : State => u.trav.pos) h

/-- R6: the state after a mark's check, `s` being the state before the sample. -/
def markedAt (f : SampleFrame) (mark : Nat) (s : State) : State :=
  let p := placeOf f s
  let linked : State := { gapChecked f s with
    trav := { s.trav with pos := if s.setup.active.positionMode = .reckoned then mark else p } }
  if absDiff p mark ≤ s.setup.active.slipTol then linked
  else markSlipped (raiseAlarm .positionSlip none s.trav.scanNumber (some p) (count .positionSlips 1 linked))

theorem reckon_marked {mark : Nat} (hm : markOf f s.setup.active (placeOf f s) = some mark) :
    reckon f (takeSeq f (frameSeen s)) = markedAt f mark s := by
  have hg := onlyNotices_gapChecked f s
  rw [takeSeq_eq]
  simp only [reckon, reckoned_gapChecked, State.setPos_setup, hg.setup, hm, checkMark]
  have hl : (if s.setup.active.positionMode = .reckoned then ((gapChecked f s).setPos (placeOf f s)).setPos mark
      else (gapChecked f s).setPos (placeOf f s)) = { gapChecked f s with
        trav := { s.trav with pos := if s.setup.active.positionMode = .reckoned then mark else placeOf f s } } := by
    split <;> simp only [State.setPos, State.onTrav, hg.trav]
  rw [hl]
  rfl

/-- R6, R75: in SCANNING the scan and its set are marked slipped. -/
theorem markSlipped_scanning (h : s.trav.state = .scanning) : markSlipped s =
    { s with
      trav := { s.trav with cur := s.trav.cur.map (fun c => { c with slipped := true }) }
      edge := match s.edge.accumulating with
        | some i => s.edge.set i { s.edge.get i with slipped := true }
        | none => s.edge } := by
  simp only [markSlipped, h, if_true, State.onTrav, State.onSet, State.onEdge]
  split <;> rename_i hi <;> simp only [hi]

theorem markSlipped_other (h : s.trav.state ≠ .scanning) : markSlipped s = s := if_neg h

/-! ### What the destinations read of a sample (R41, R42, R29) -/

/-- The flags of a sample that its destination reads. -/
abbrev SameReadings (f g : SampleFrame) : Prop :=
  f.bwCount = g.bwCount ∧ f.irAbs = g.irAbs ∧ f.irRef = g.irRef ∧ f.calRaw = g.calRaw ∧ shutterOpen f = shutterOpen g ∧
    sourceOk f = sourceOk g ∧ caliperContact f = caliperContact g ∧ calRange f = calRange g

theorem convert_same {f g : SampleFrame} (h : SameReadings f g) (current : Option StdRecord) (a : Setup) (pos : Nat) :
    convert current a f pos = convert current a g pos := by
  obtain ⟨h1, h2, h3, h4, h5, h6, h7, h8⟩ := h
  simp only [convert, caliperPart, calRaw, h1, h2, h3, h4, h5, h6, h7, h8]

theorem take_same {f g : SampleFrame} (h : SameReadings f g) (x : StdFlight) : x.take f = x.take g := by
  obtain ⟨h1, h2, h3, h4, h5, h6, h7, h8⟩ := h
  have hmeets (p : Phase) : p.meets f = p.meets g := by simp only [Phase.meets, h5, h8]
  have hadd (y : StdFlight) : y.add f = y.add g := by simp only [StdFlight.add, calRaw, h1, h2, h3, h4]
  simp only [StdFlight.take, hmeets, hadd]

theorem deliver_same {f g : SampleFrame} (h : SameReadings f g) (s : State) : deliver f s = deliver g s := by
  simp only [deliver, scanSample, stdSample, dwellSample, convert_same h, take_same h]

theorem markSlipped_link (s : State) : (markSlipped s).link = s.link := by
  by_cases h : s.trav.state = .scanning
  · rw [markSlipped_scanning h]
  · rw [markSlipped_other h]

theorem markSlipped_setup (s : State) : (markSlipped s).setup = s.setup := by
  by_cases h : s.trav.state = .scanning
  · rw [markSlipped_scanning h]
  · rw [markSlipped_other h]

theorem markSlipped_pos (s : State) : (markSlipped s).trav.pos = s.trav.pos := by
  by_cases h : s.trav.state = .scanning
  · rw [markSlipped_scanning h]
  · rw [markSlipped_other h]

theorem markedAt_link (f : SampleFrame) (mark : Nat) (s : State) : (markedAt f mark s).link =
    { s.link with up := true, silence := some s.setup.active.headTimeout, lastSeq := some f.seq } := by
  have hg := (onlyNotices_gapChecked f s).link
  unfold markedAt
  dsimp only
  split
  · exact hg
  · rw [markSlipped_link, raiseAlarm_link, count_link, hg]

theorem markedAt_setup (f : SampleFrame) (mark : Nat) (s : State) : (markedAt f mark s).setup = s.setup := by
  have hg := (onlyNotices_gapChecked f s).setup
  unfold markedAt
  dsimp only
  split
  · exact hg
  · rw [markSlipped_setup, raiseAlarm_setup, count_setup, hg]

theorem markedAt_pos (f : SampleFrame) (mark : Nat) (s : State) : (markedAt f mark s).trav.pos =
    if s.setup.active.positionMode = .reckoned then mark else placeOf f s := by
  unfold markedAt
  dsimp only
  split
  · rfl
  · rw [markSlipped_pos, raiseAlarm_trav, count_trav]

/-- R47: in SCANNING a sample with the shutter closed is rejected. -/
theorem deliver_rejected (hs : s.trav.state = .scanning) (hi : s.edge.accumulating.isSome = true)
    (hk : s.edge.tracker.isSome = true) (ho : shutterOpen f = false) : deliver f s = count .samplesRejected 1 s := by
  obtain ⟨i, hi⟩ := Option.isSome_iff_exists.1 hi
  obtain ⟨k, hk⟩ := Option.isSome_iff_exists.1 hk
  rw [deliver_scanning hs hi hk, convert_none (.inr (.inr (.inr ho)))]

theorem accumulating_set_same {e : EdgeUnit} {i : SetId} (a : AccSet) (h : a.state = (e.get i).state) :
    (e.set i a).accumulating = e.accumulating := by
  cases i
  · exact congrArg (fun st : SetState => if st = .accumulating then some SetId.x
      else if e.y.state = .accumulating then some .y else none) h
  · exact congrArg (fun st : SetState => if e.x.state = .accumulating then some SetId.x
      else if st = .accumulating then some .y else none) h

theorem sameReadings_plain (f : SampleFrame) (pos : BitVec 16) :
    SameReadings { f with flags := f.flags &&& 0xE7, pos := pos } f := by
  refine ⟨rfl, rfl, rfl, rfl, ?_, ?_, ?_, ?_⟩
  · simp [shutterOpen]
  · simp [sourceOk]
  · simp [caliperContact]
  · simp [calRange]

/-- R4: a sample after no other leaves the link as the first of the two did. -/
theorem gapChecked_first {g : SampleFrame} (h : s.link.lastSeq = none) : gapChecked g s =
    { s with link := { s.link with up := true, silence := some s.setup.active.headTimeout, lastSeq := some g.seq } } := by
  simp [gapChecked, h]

/-- R4, R5: a sample after no other, in a state whose link and position are already those it gives, changes nothing on
its way to its destination. -/
theorem placed_settled {g : SampleFrame} (hl : s.link =
      { s.link with up := true, silence := some s.setup.active.headTimeout, lastSeq := some g.seq })
    (hp : placeOf g s = s.trav.pos) : placed g { s with link := { s.link with lastSeq := none } } = s := by
  have e : placed g { s with link := { s.link with lastSeq := none } } =
      { s with
        link := { s.link with up := true, silence := some s.setup.active.headTimeout, lastSeq := some g.seq }
        trav := { s.trav with pos := placeOf g s } } := by
    unfold placed
    rw [gapChecked_first rfl]
    rfl
  rw [e, ← hl, hp]

end Sys2Proof.Machine

open Sys2Proof Sys2Proof.Machine

/-- Settles O15: the state after the mark's check, in which a sample without an index flag finds itself at its place. -/
theorem indexMarksAreChecked : Obligations.IndexMarksAreChecked := by
  intro f s mark hseq a low step p hmark pos linked slipped
  have hm : markOf f s.setup.active (placeOf f s) = some mark := by
    rcases hmark with ⟨hF, hD, rfl⟩ | ⟨hF, hD, rfl⟩ | ⟨hF, hD, rfl⟩ <;> simp [markOf, hF, hD] <;> rfl
  have arrives : exec (.sample f) s = .next (settle (deliver f (markedAt f mark s))) := by
    rw [exec_sample_taken hseq, reckon_marked hm]
  have near (h : absDiff p mark ≤ a.slipTol) : markedAt f mark s = linked := if_pos h
  have far (h : a.slipTol < absDiff p mark) : markedAt f mark s = markSlipped slipped := if_neg (not_le.2 h)
  have htrav : slipped.trav = linked.trav := by simp [slipped]
  have hedge : slipped.edge = s.edge := by simp [slipped, linked, (onlyNotices_gapChecked f s).edge]
  have hstate : slipped.trav.state = s.trav.state := by rw [htrav]
  refine ⟨fun hn => ⟨fun h => ?_, fun h => ?_⟩, ?_, fun c i hc hcur hi hk ho h => ?_⟩
  · rw [arrives, near h, deliver_nowhere (s := linked) hn]
  · have hs : s.trav.state ≠ .scanning := by
      rintro hs
      simp [hs] at hn
    rw [arrives, far h, markSlipped_other (hstate ▸ hs), deliver_nowhere (hstate ▸ hn)]
  · intro marked plain hmode
    have hmarked : marked = markedAt f mark s := by
      simp only [marked]
      split
      · rw [near ‹_›]
      · rw [far (not_le.1 ‹_›)]
        split
        · rw [markSlipped_scanning (hstate ▸ ‹_›), htrav, hedge] <;> rfl
        · rw [markSlipped_other (hstate ▸ ‹_›)]
    have hplain : placed plain { marked with link := { marked.link with lastSeq := none } } = marked := by
      rw [hmarked]
      refine placed_settled (by rw [markedAt_link, markedAt_setup]) ?_
      rw [placeOf, markedAt_setup, markedAt_pos]
      cases hp : s.setup.active.positionMode with
      | encoder => simp [plain, a, hp, placeOf]
      | reckoned =>
        have hle : mark ≤ 32767 := hmode.resolve_left (by simp [a, hp])
        simp [plain, a, hp]
        omega
    rw [arrives, ← hmarked, exec_sample_placed (by simp) (by simp [plain, indexFFlag]) (by simp [plain, indexDFlag]),
      hplain, deliver_same (sameReadings_plain f _)]
  · let v : State := { slipped with
      trav := { linked.trav with cur := some { c with slipped := true } }
      edge := s.edge.set i { s.edge.get i with slipped := true } }
    have hv : markedAt f mark s = v := by
      rw [far h, markSlipped_scanning (hstate ▸ hc), htrav, hedge]
      simp only [hi, linked, hcur, Option.map_some, v]
    have hrun : v.edge.accumulating.isSome = true := congrArg Option.isSome
      ((accumulating_set_same (i := i) { s.edge.get i with slipped := true } rfl).trans hi)
    rw [arrives, hv, deliver_rejected (s := v) hc hrun (by simpa [v] using hk) ho]
end

section
namespace Sys2Proof

/-! ### Bodies and their CRC-16 (R186) -/

theorem length_bytes16 (v : BitVec 16) : (bytes16 v).length = 2 := rfl

/-- R186: a body is checked exactly when it is some bytes followed by their CRC-16. -/
theorem checked_eq_some {body front : List Byte} :
    checked body = some front ↔ body = front ++ bytes16 (crc16 front) := by
  unfold checked
  dsimp only
  constructor
  · intro h
    split at h
    · rename_i hc
      obtain rfl : body.take (body.length - 2) = front := Option.some.inj h
      rw [← hc.2, List.take_append_drop]
    · cases h
  · rintro rfl
    have hl : (front ++ bytes16 (crc16 front)).length - 2 = front.length := by simp [length_bytes16]
    have ht : (front ++ bytes16 (crc16 front)).take front.length = front := List.take_left
    rw [hl, ht, if_pos ⟨by simp [length_bytes16], List.drop_left⟩]

theorem bind_checked_none {raw : List Byte} (h : ∀ front, unescape raw ≠ some (front ++ bytes16 (crc16 front))) :
    (unescape raw).bind checked = none := by
  cases hu : unescape raw with
  | none => rfl
  | some body =>
    cases hc : checked body with
    | none => exact hc
    | some front => exact absurd (hu.trans (congrArg some (checked_eq_some.1 hc))) (h front)

theorem bind_checked_some {raw front : List Byte} (h : unescape raw = some (front ++ bytes16 (crc16 front))) :
    (unescape raw).bind checked = some front := by
  rw [h]
  exact checked_eq_some.2 rfl

/-! ### Frames in a stream (R186) -/

theorem delimiter_notMem_escape (body : List Byte) : delimiter ∉ escape body := by
  induction body with
  | nil => simp [escape]
  | cons b rest ih =>
    unfold escape
    split
    · simpa [delimiter, escapeByte] using ih
    · split
      · simpa [delimiter, escapeByte] using ih
      · rename_i hb _
        simpa [Ne.symm hb] using ih

theorem escape_ne_nil {body : List Byte} (h : body ≠ []) : escape body ≠ [] := by
  cases body with
  | nil => exact absurd rfl h
  | cons b rest =>
    unfold escape
    split
    · simp
    · split <;> simp

/-- Bytes without a delimiter join the open piece, which the next delimiter closes. -/
theorem closedPieces_append (acc piece rest : List Byte) (h : delimiter ∉ piece) :
    closedPieces acc (piece ++ delimiter :: rest) = (acc.reverse ++ piece) :: closedPieces [] rest := by
  induction piece generalizing acc with
  | nil => simp [closedPieces]
  | cons b piece ih =>
    obtain ⟨hb, hp⟩ := not_or.1 (mt List.mem_cons.2 h)
    simp [closedPieces, Ne.symm hb, ih _ hp]

theorem closedPieces_open (acc piece : List Byte) (h : delimiter ∉ piece) : closedPieces acc piece = [] := by
  induction piece generalizing acc with
  | nil => rfl
  | cons b piece ih =>
    obtain ⟨hb, hp⟩ := not_or.1 (mt List.mem_cons.2 h)
    simp [closedPieces, Ne.symm hb, ih _ hp]

/-- The body of a frame as sent, between its delimiters. -/
def sealed (body : List Byte) : List Byte := escape (body ++ bytes16 (crc16 body))

theorem sealed_ne_nil (body : List Byte) : sealed body ≠ [] :=
  escape_ne_nil (by simp [bytes16])

theorem delimiter_notMem_sealed (body : List Byte) : delimiter ∉ sealed body := delimiter_notMem_escape _

theorem wire_append (body rest : List Byte) :
    wire body ++ rest = delimiter :: (sealed body ++ delimiter :: rest) := by
  simp [wire, sealed]

theorem closedPieces_wires (bodies : List (List Byte)) :
    closedPieces [] (bodies.flatMap wire) = bodies.flatMap (fun b => [[], sealed b]) := by
  induction bodies with
  | nil => rfl
  | cons b bodies ih =>
    rw [List.flatMap_cons, wire_append]
    have h := closedPieces_append [] [] (sealed b ++ delimiter :: bodies.flatMap wire) (by simp)
    rw [List.nil_append] at h
    rw [h, closedPieces_append _ _ _ (delimiter_notMem_sealed _), ih]
    rfl

/-- R186: between the frames, and in the two delimiters of neighbours, there is nothing. -/
theorem filter_pieces (bodies : List (List Byte)) :
    (bodies.flatMap (fun b => [[], sealed b])).filter (fun piece => !piece.isEmpty) = bodies.map sealed := by
  induction bodies with
  | nil => rfl
  | cons b bodies ih => simp [ih, sealed_ne_nil]

theorem rawFrames_wires (before : List Byte) (bodies : List (List Byte)) (h : delimiter ∉ before) :
    rawFrames (before ++ bodies.flatMap wire) = bodies.map sealed := by
  cases bodies with
  | nil => simp [rawFrames, closedPieces_open _ _ h]
  | cons b bodies =>
    have hb := sealed_ne_nil b
    rw [List.flatMap_cons, wire_append, rawFrames, closedPieces_append _ _ _ h,
      closedPieces_append _ _ _ (delimiter_notMem_sealed _), closedPieces_wires]
    simp [filter_pieces, hb]

/-! ### What is discarded (R162, R188) -/

theorem serviceCommand_bad {raw front : List Byte} (p : PortId) (h : (unescape raw).bind checked = some front)
    (hb : readServiceFields front = .bad) : serviceCommand p raw = .serviceFrameDiscarded p := by
  simp only [serviceCommand, readService, h, hb]

theorem serviceCommand_unchecked {raw : List Byte} (p : PortId) (h : (unescape raw).bind checked = none) :
    serviceCommand p raw = .serviceFrameDiscarded p := by
  simp only [serviceCommand, readService, h]

theorem readServiceFields_bad {kind tag : Byte} {l : BitVec 16} {payload : List Byte}
    (h : 512 < l.toNat ∨ l.toNat ≠ payload.length ∨ (kind ≠ 1 ∧ kind ≠ 5 ∧ kind ≠ 6) ∨
      (kind = 5 ∧ payload.length ≠ 2) ∨ (kind = 6 ∧ payload ≠ [])) :
    readServiceFields (kind :: tag :: bytes16 l ++ payload) = .bad := by
  change (if 512 < (le16 _ _).toNat ∨ (le16 _ _).toNat ≠ payload.length then _ else _) = _
  rw [le16_bytes16]
  split
  · rfl
  · rename_i hl
    obtain ⟨h1, h2⟩ := not_or.1 hl
    rcases h with h | h | ⟨k1, k5, k6⟩ | ⟨rfl, h⟩ | ⟨rfl, h⟩
    · exact absurd h h1
    · exact absurd h h2
    · rw [if_neg k1, if_neg k5, if_neg fun h => k6 h.1]
    · match payload, h with
      | [], _ => rfl
      | [_], _ => rfl
      | [_, _], h => exact absurd rfl h
      | _ :: _ :: _ :: _, _ => rfl
    · simp [h]

theorem readServiceFields_short {front : List Byte} (h : front.length < 4) : readServiceFields front = .bad := by
  match front, h with
  | [], _ => rfl
  | [_], _ => rfl
  | [_, _], _ => rfl
  | [_, _, _], _ => rfl
  | _ :: _ :: _ :: _ :: _, h => exact absurd h (by simp)

theorem readCarriageFields_unknown {front : List Byte} (h1 : ¬ (front.head? = some 0x10 ∧ front.length = 17))
    (h2 : ¬ (front.head? = some 0x11 ∧ front.length = 4)) (h3 : ¬ (front.head? = some 0x12 ∧ front.length = 2)) :
    readCarriageFields front = .carriageFrameUnknownType := by
  unfold readCarriageFields
  split
  · exact absurd ⟨rfl, rfl⟩ h1
  · exact absurd ⟨rfl, rfl⟩ h2
  · exact absurd ⟨rfl, rfl⟩ h3
  · rfl

end Sys2Proof

open Sys2Proof Sys2Proof.Machine

/-- Settles O7: the pieces of a stream, and the frames that R162 and R188 discard among them. -/
theorem framesAreFoundAndChecked : Obligations.FramesAreFoundAndChecked := by
  refine ⟨fun before bodies h => rawFrames_wires before bodies h, fun p raw h => ?_,
    fun p raw kind tag l payload hu h => ?_, fun p raw body hu hl => ?_, fun raw front hu h1 h2 h3 => ?_, fun p s hp => ?_⟩
  · have hn := bind_checked_none h
    exact ⟨serviceCommand_unchecked p hn, by simp only [carriageCommand, hn]⟩
  · exact serviceCommand_bad p (bind_checked_some hu) (readServiceFields_bad h)
  · cases hc : checked body with
    | none => exact serviceCommand_unchecked p (by rw [hu]; exact hc)
    | some front =>
      obtain rfl := checked_eq_some.1 hc
      refine serviceCommand_bad p (bind_checked_some hu) (readServiceFields_short ?_)
      simp [length_bytes16] at hl
      omega
  · simp only [carriageCommand, bind_checked_some hu, readCarriageFields_unknown h1 h2 h3]
  · simp [exec, execServiceFrameDiscarded, hp]
end

section
namespace Sys2Proof.Machine

variable {s u : State}

/-! ### Edges of the machine lines (R115, R116, R119) -/

/-- R115: the expiry of a running debounce timer at which the level differs is an edge. -/
theorem exec_lineDebounceExpiry_edge {l : Line} (ht : (s.mon.line l).timer.isSome = true)
    (hd : (s.mon.line l).level ≠ (s.mon.line l).debounced) :
    exec (.lineDebounceExpiry l) s = .next (settle (lineEdge l (takeLevel l s))) := by
  have hn : (s.mon.line l).timer.isNone = false := by simpa using ht
  simp only [exec, execLineDebounceExpiry, hn, Bool.false_eq_true, if_false, debounced, if_neg hd]

/-- R115: the line's debounced state is its level. -/
def State.levelled (l : Line) (b : Bool) (s : State) : State :=
  s.onLine l (fun v => { v with debounced := b, timer := none })

theorem takeLevel_eq {l : Line} {b : Bool} (h : (s.mon.line l).level = b) : takeLevel l s = s.levelled l b := by
  subst h
  rfl

/-- R116: an edge of the tail line that neither leaves BREAK nor ends THREADING. -/
theorem lineEdge_tail_quiet (ha : u.mon.tail.debounced = true → u.mon.state ≠ .brk)
    (hf : u.mon.tail.debounced = false → ¬ (u.mon.state = .threading ∧ u.asserted .brk = false)) :
    lineEdge .tail u = u := by
  cases hd : u.mon.tail.debounced with
  | true => simp [lineEdge, edgeEvent, edgeEffect, BreakMonitor.line, hd, ha hd, tellTraverse]
  | false =>
    simp only [lineEdge, edgeEvent, edgeEffect, BreakMonitor.line, hd, if_neg (hf hd), tellTraverse]
    simp

/-- R119: the tail line's assertion edge in BREAK. -/
theorem lineEdge_tail_threading (hd : u.mon.tail.debounced = true) (hs : u.mon.state = .brk) :
    lineEdge .tail u = enterThreading u := by
  simp [lineEdge, edgeEvent, edgeEffect, BreakMonitor.line, hd, hs, tellTraverse]

/-- R116: the fall of the tail line that leaves both lines DEASSERTED in THREADING. -/
theorem lineEdge_tail_recovery (hd : u.mon.tail.debounced = false) (hs : u.mon.state = .threading)
    (ho : u.asserted .brk = false) : lineEdge .tail u = traverseRecovered (enterRecovery .tail u) := by
  simp [lineEdge, edgeEvent, edgeEffect, BreakMonitor.line, hd, hs, ho, tellTraverse]

/-- R116: a fall of the break line that does not end THREADING. -/
theorem lineEdge_brk_quiet (hd : u.mon.brk.debounced = false)
    (hf : ¬ (u.mon.state = .threading ∧ u.asserted .tail = false)) : lineEdge .brk u = u := by
  simp only [lineEdge, edgeEvent, edgeEffect, BreakMonitor.line, hd, if_neg hf, tellTraverse]
  simp

/-- R116: the fall of the break line that leaves both lines DEASSERTED in THREADING. -/
theorem lineEdge_brk_recovery (hd : u.mon.brk.debounced = false) (hs : u.mon.state = .threading)
    (ho : u.asserted .tail = false) : lineEdge .brk u = traverseRecovered (enterRecovery .tail u) := by
  simp [lineEdge, edgeEvent, edgeEffect, BreakMonitor.line, hd, hs, ho, tellTraverse]

/-! ### The restart of a frame in IDLE (R22) -/

theorem traverseRecovered_eq (w : State) : traverseRecovered w =
    if w.trav.state ≠ .idle ∨ w.trav.intent = .off then w
    else if w.trav.atPark = false then park w
    else if w.trav.stdDue = true then standardizing w
    else if w.trav.intent = .scan then sentTo .turnF w.setup.active.turnF w
    else enterPositioning .dwellPos w := by
  unfold traverseRecovered idleStart
  cases hs : w.trav.state <;> simp
  cases hi : w.trav.intent <;> cases ha : w.trav.atPark <;> cases hd : w.trav.stdDue <;>
    simp [enterStandardizing_eq, enterPositioning_turnF]

end Sys2Proof.Machine

open Sys2Proof Sys2Proof.Machine

/-- Settles O33: each edge by the state that the line's new debounced state leaves, and RECOVERY by R22's restart. -/
theorem threadingAndResumeLeadToRecovery : Obligations.ThreadingAndResumeLeadToRecovery := by
  intro s a asserted at_ started recovers
  have restarts (w : State) (ht : w.trav = { s.trav with stdDue := s.trav.stdDue || !s.mon.stdInBreak })
      (hset : w.setup = s.setup) : traverseRecovered w = started w := by
    have hd : (s.trav.stdDue || !s.mon.stdInBreak) = true ↔ s.trav.stdDue = true ∨ s.mon.stdInBreak = false := by simp
    simp only [traverseRecovered_eq, enterPositioning_dwell, started, ht, hset, hd, at_, a]
  have recovered (cause : Cause) (m : BreakMonitor) (w u : State) (hw : enterRecovery cause w = notify
      (.breakState .recovery s.mon.state cause s.trav.scanNumber s.mon.output s.mon.refWidth s.rebreaks)
      { u with mon := { m with state := .recovery, recovery := 0, stdInBreak := false }
               trav := { s.trav with stdDue := s.trav.stdDue || !s.mon.stdInBreak } }) (hset : u.setup = s.setup) :
      traverseRecovered (enterRecovery cause w) = recovers cause m u := by
    rw [hw]
    exact restarts _ (notify_trav _ _) ((notify_setup _ _).trans hset)
  have edge (l : Line) (b : Bool) (ht : (s.mon.line l).timer.isSome = true) (hb : (s.mon.line l).level = b)
      (hl : b ≠ (s.mon.line l).debounced) {v : State} (hv : lineEdge l (s.levelled l b) = v) :
      exec (.lineDebounceExpiry l) s = .next (settle v) := by
    rw [exec_lineDebounceExpiry_edge ht (hb ▸ hl), takeLevel_eq hb, hv]
  refine ⟨fun ht hl hd hs => edge .tail true ht hl (by simp [BreakMonitor.line, hd]) ?_,
    fun ht hl hb hth => edge .tail _ ht rfl hl ?_,
    fun ht hl hd hs => edge .brk false ht hl (by simp [BreakMonitor.line, hd]) ?_,
    fun ht hl hd hs => ⟨fun ho => edge .tail false ht hl (by simp [BreakMonitor.line, hd]) ?_,
      fun ho => edge .tail false ht hl (by simp [BreakMonitor.line, hd]) ?_⟩,
    fun ht hl hd hs => ⟨fun ho => edge .brk false ht hl (by simp [BreakMonitor.line, hd]) ?_,
      fun ho => edge .brk false ht hl (by simp [BreakMonitor.line, hd]) ?_⟩,
    fun p tag h => ⟨fun hs => ?_, fun hs => ⟨fun ho => ?_, fun ho => ?_⟩⟩⟩
  · exact lineEdge_tail_threading (u := s.levelled .tail true) rfl hs
  · exact lineEdge_tail_quiet (u := s.levelled .tail _) hb fun hf k => hth hf k.1
  · exact lineEdge_brk_quiet (u := s.levelled .brk false) rfl fun k => hs k.1
  · refine (lineEdge_tail_recovery (u := s.levelled .tail false) rfl hs ho).trans ?_
    exact recovered .tail _ (s.levelled .tail false) s rfl rfl
  · exact lineEdge_tail_quiet (u := s.levelled .tail false) (fun k => Bool.noConfusion k)
      fun _ k => Bool.false_ne_true (k.2.symm.trans ho)
  · refine (lineEdge_brk_recovery (u := s.levelled .brk false) rfl hs ho).trans ?_
    exact recovered .tail _ (s.levelled .brk false) s rfl rfl
  · exact lineEdge_brk_quiet (u := s.levelled .brk false) rfl fun k => Bool.false_ne_true (k.2.symm.trans ho)
  · have hp : (taken p s).permits = true := permits_iff.2 (by rcases hs with hs | hs | hs <;> simp [taken, hs])
    refine congrArg _ (requestArrives_replied (r := .resumeSheet) h tag rfl ?_)
    simp only [carryOut, takeResumeSheet, hp, if_true, Answer.refusal]
  · have hp : (taken p s).permits = false := by
      rcases hs with hs | hs <;> simp [taken, State.permits, hs, BreakState.permits]
    have ha : (taken p s).asserted .brk = true := ho
    refine congrArg _ (requestArrives_replied (r := .resumeSheet) h tag rfl ?_)
    simp only [carryOut, takeResumeSheet, hp, ha, Bool.false_eq_true, if_false, if_true, Answer.refusal]
  · have hp : (taken p s).permits = false := by
      rcases hs with hs | hs <;> simp [taken, State.permits, hs, BreakState.permits]
    have ha : (taken p s).asserted .brk = false := ho
    refine congrArg _ (requestArrives_replied (r := .resumeSheet) h tag rfl ?_)
    simp only [carryOut, takeResumeSheet, hp, ha, Bool.false_eq_true, if_false, Answer.done]
    rw [recovered .resume s.mon (taken p s) (taken p s) rfl rfl]
end

section
/-! ## Proofs: what the operations that queue notices do besides

Each operation is stated by the state that it gives but for its notices and counts, written out in full. -/

namespace Sys2Proof.Machine

variable {s t b : State} {ids : List TallyId}

/-! ### Updates of other fields -/

theorem OnlyNotices.eq_withPorts (h : OnlyNotices ids s t) : t = { s with ports := t.ports, tallies := t.tallies } := by
  obtain ⟨h1, h2, h3, h4, h5, h6, h7, h8, h9, h10, h11, _, _⟩ := h
  cases s
  cases t
  simp only at h1 h2 h3 h4 h5 h6 h7 h8 h9 h10 h11
  subst h1 h2 h3 h4 h5 h6 h7 h8 h9 h10 h11
  rfl

/-- An update that neither reads nor changes the ports and the tallies. -/
def Portless (g : State → State) : Prop :=
  ∀ (s : State) P T, g { s with ports := P, tallies := T } = { g s with ports := P, tallies := T }

theorem OnlyNotices.update (h : OnlyNotices ids s t) {g : State → State} (hg : Portless g) :
    OnlyNotices ids (g s) (g t) := by
  have ht : g t = { g s with ports := t.ports, tallies := t.tallies } :=
    (congrArg g h.eq_withPorts).trans (hg s t.ports t.tallies)
  have hs : g s = { g s with ports := s.ports, tallies := s.tallies } := hg s s.ports s.tallies
  rw [ht, hs]
  exact ⟨rfl, rfl, rfl, rfl, rfl, rfl, rfl, rfl, rfl, rfl, rfl, h.ports, h.tallies⟩

theorem TalliesKept.refl (ids : List TallyId) (s : State) : TalliesKept ids s s := fun _ _ _ => rfl

theorem TalliesKept.trans {u : State} (h : TalliesKept ids s t) (k : TalliesKept ids t u) : TalliesKept ids s u :=
  fun id a b => (k id a b).trans (h id a b)

theorem TalliesKept.mono {more : List TallyId} (h : TalliesKept ids s t) (sub : ids ⊆ more) : TalliesKept more s t :=
  fun id a b => h id (fun c => a (sub c)) b

/-! ### Notices after other operations -/

theorem OnlyNotices.thenNotify (h : OnlyNotices ids b s) (n : Notice) : OnlyNotices ids b (notify n s) :=
  h.trans (onlyNotices_notify ids n s)

theorem OnlyNotices.thenCount (h : OnlyNotices ids b s) {id : TallyId} (n : Nat) (hid : id ∈ ids) :
    OnlyNotices ids b (count id n s) :=
  h.trans ((onlyNotices_count id n s).mono (by simpa using hid))

theorem OnlyNotices.thenSettle (h : OnlyNotices ids b s) : OnlyNotices ids b (settle s) :=
  h.trans (onlyNotices_settle ids s)

/-- R7, R10: the traverse state changed, without its notice. -/
def stateChanged (st : TravState) (s : State) : State :=
  { s with trav := { s.trav with
      state := st
      moveTimer := if st = .fault ∧ s.trav.state ≠ .fault then none else s.trav.moveTimer } }

theorem OnlyNotices.thenChangeState (h : OnlyNotices ids b s) (st : TravState) :
    OnlyNotices ids (stateChanged st b) (changeState st s) := by
  have k := onlyNotices_changeState ids st s
  rw [changeState_trav] at k
  exact (h.update (g := stateChanged st) fun _ _ _ => rfl).trans k

theorem OnlyNotices.thenPark (h : OnlyNotices ids b s) :
    OnlyNotices ids (stateChanged .parking (issue .park b)) (park s) :=
  (h.update (g := issue .park) fun _ _ _ => rfl).thenChangeState .parking

theorem OnlyNotices.thenSentTo (h : OnlyNotices ids b s) (what : MoveTarget) (target : Nat) :
    OnlyNotices ids (stateChanged .positioning
        { issue (.move target) b with trav := { (issue (.move target) b).trav with target := some what } })
      (sentTo what target s) :=
  (h.update (g := fun s => { issue (.move target) s with
    trav := { (issue (.move target) s).trav with target := some what } }) fun _ _ _ => rfl).thenChangeState .positioning

theorem OnlyNotices.thenAppliedAt (h : OnlyNotices ids b s) (point : ApplyPoint) (picks : Armed → Bool) :
    OnlyNotices ids { b with setup := b.setup.appliedBy picks } (appliedAt point picks s) :=
  (h.update (g := fun s => { s with setup := s.setup.appliedBy picks }) fun _ _ _ => rfl).trans
    (onlyNotices_appliedAt ids point picks s)

/-- R152, R153: the application at a scan end, without its notice. -/
def endApplied (s : State) : State :=
  { s with
    setup := s.setup.appliedBy (scanEndPicks s.trav.scanNumber)
    trav := { s.trav with stdDue := s.trav.stdDue || groupFallsDue s.trav.scanNumber s.setup.armed } }

theorem OnlyNotices.thenScanEndApplied (h : OnlyNotices ids b s) :
    OnlyNotices ids (endApplied b) (scanEndApplied s) := by
  have k := onlyNotices_appliedAt ids .scanEnd (scanEndPicks s.trav.scanNumber) s
  refine (h.update (g := endApplied) fun _ _ _ => rfl).trans ?_
  have kt := k.trav
  have u := k.update (g := fun v => { v with
    trav := { v.trav with stdDue := v.trav.stdDue || groupFallsDue s.trav.scanNumber s.setup.armed } }) fun _ _ _ => rfl
  exact u

theorem OnlyNotices.thenScanEndNoted (h : OnlyNotices ids b s) (code : EndCode) (hid : code.tally ∈ ids) :
    OnlyNotices ids { b with trav := { b.trav with cur := none } } (scanEndNoted code s) := by
  have k := h.update (g := fun s => { s with trav := { s.trav with cur := none } }) fun _ _ _ => rfl
  cases hc : s.trav.cur with
  | none =>
    have e : { s with trav := { s.trav with cur := none } } = s := by rw [← hc]
    rw [e] at k
    simpa only [scanEndNoted, hc] using k
  | some c =>
    rw [scanEndNoted_of code hc]
    exact (k.thenCount 1 hid).thenNotify _

/-- R17, R76: the end of a scan with a code other than COMPLETE, without its notices. -/
def scanGone (s : State) : State := endApplied { gatheringFreed s with trav := { s.trav with cur := none } }

theorem OnlyNotices.thenScanDropped (h : OnlyNotices ids b s) (code : EndCode) (hid : code.tally ∈ ids) :
    OnlyNotices ids (scanGone b) (scanDropped code s) :=
  ((h.update (g := gatheringFreed) fun _ _ _ => rfl).thenScanEndNoted code hid).thenScanEndApplied

/-! ### Alarms and breaks (R117, R118, R128) -/

theorem alarmPorts_kept (h : PortsKept s t) : t.alarmPorts = s.alarmPorts := by
  obtain ⟨h0, h1, h2⟩ := h
  simp only [State.alarmPorts, Port.subscribed, h0.subs, h1.subs, h2.subs]

/-- R128: what a raise makes of the alarm list depends on the list and on the subscriptions alone. -/
theorem raiseAlarm_alarms_kept (kind : AlarmKind) (cause : Option Cause) (scan : Nat) (pos : Option Nat)
    (hp : PortsKept s t) (ha : t.alarms = s.alarms) :
    (raiseAlarm kind cause scan pos t).alarms = (raiseAlarm kind cause scan pos s).alarms := by
  simp only [raiseAlarm_alarms, newAlarm, alarmPorts_kept hp, ha]

theorem OnlyNotices.thenRaiseAlarm (h : OnlyNotices ids b s) (kind : AlarmKind) (cause : Option Cause) (scan : Nat)
    (pos : Option Nat) : OnlyNotices ids { b with alarms := (raiseAlarm kind cause scan pos b).alarms }
      (raiseAlarm kind cause scan pos s) := by
  have k := onlyNotices_raiseAlarm ids kind cause scan pos s
  rw [raiseAlarm_alarms_kept kind cause scan pos h.ports h.alarms] at k
  exact (h.onAlarmList _).trans k

/-- R118 step 3: the alarm list after a rebreak. -/
def rebrokenAlarms (l : AlarmList) : AlarmList :=
  { l with records := l.records.map (fun r =>
      if r.state = .active then { r with rebreaks := min (r.rebreaks + 1) 255 } else r) }

theorem OnlyNotices.thenRebroken (h : OnlyNotices ids b s) :
    OnlyNotices ids { b with alarms := rebrokenAlarms b.alarms } (rebroken s) := by
  have k := h.update (g := fun s => { s with alarms := rebrokenAlarms s.alarms }) fun _ _ _ => rfl
  unfold rebroken
  dsimp only
  split
  · exact k.thenNotify _
  · exact k

/-- R117, R118: a break declared, or declared again, without its notices. -/
def sheetBroken (cause : Cause) (scan : Nat) (pos : Option Nat) (s : State) : State :=
  let width := s.edge.mapping.map (fun m => m.back - m.front)
  { s with
    edge := { s.edge with mapping := none, jumps := 0 }
    ring := { s.ring with reseedPending := true, breakScan := s.trav.scanNumber }
    mon := { s.mon with
      state := .brk, recovery := 0, stdInBreak := false
      refWidth := if s.mon.state = .recovery then width.or s.mon.refWidth else width
      output := s.mon.output || decide (s.mon.state ≠ .recovery) }
    alarms := if s.mon.state = .recovery then rebrokenAlarms s.alarms
      else (raiseAlarm .brk (some cause) scan pos s).alarms }

theorem onlyNotices_breakTaken (cause : Cause) (scan : Nat) (pos : Option Nat) (s : State) :
    OnlyNotices [.breaks] (sheetBroken cause scan pos s) (breakTaken cause scan pos s) := by
  by_cases hr : s.mon.state = .recovery
  · let down := breakEffects (s.onMon fun m => { m with refWidth := s.mappingWidth.or m.refWidth })
    have hbase : sheetBroken cause scan pos s = { down with alarms := rebrokenAlarms s.alarms } := by
      simp [sheetBroken, hr, down, breakEffects, State.onMon, State.mappingWidth]
    rw [hbase, breakTaken]
    simp only [hr, decide_true, if_true]
    exact ((OnlyNotices.refl [TallyId.breaks] down).thenRebroken.thenCount 1 (by simp)).thenNotify _
  · let down := breakEffects (s.onMon fun m => { m with refWidth := s.mappingWidth })
    have hbase : sheetBroken cause scan pos s = { down with
        mon := { down.mon with output := true }
        alarms := (raiseAlarm .brk (some cause) scan pos down).alarms } := by
      rw [raiseAlarm_alarms_kept (s := s) (t := down) _ _ _ _ (PortsKept.refl s) rfl]
      simp [sheetBroken, hr, down, breakEffects, State.onMon, State.mappingWidth]
    have asserted := ((OnlyNotices.refl [TallyId.breaks] down).thenRaiseAlarm .brk (some cause) scan pos).update
      (g := fun u => { u with mon := { u.mon with output := true } }) fun _ _ _ => rfl
    rw [hbase, breakTaken]
    simp only [hr, decide_false, if_false, Bool.false_eq_true]
    exact (asserted.thenCount 1 (by simp)).thenNotify _

/-! ### What a count leaves in its tally (R180) -/

/-- R180: a count that follows notices and counts of other tallies. -/
theorem OnlyNotices.count_value (h : OnlyNotices ids b s) {id : TallyId} (hn : id ∉ ids) (hd : id ≠ .noticesDropped) :
    ((count id 1 s).tallies.get id).value =
      countedValue b.setup.active.tallyMode (b.tallies.get id).value 1 := by
  rw [count_get _ _ _ hd, h.setup, h.tallies id hn hd]

theorem EndCode.tally_ne_noticesDropped (code : EndCode) : code.tally ≠ .noticesDropped := by
  cases code <;> simp [EndCode.tally]

theorem scanEndNoted_value {c : CurScan} (code : EndCode) (hc : s.trav.cur = some c) :
    ((scanEndNoted code s).tallies.get code.tally).value =
      countedValue s.setup.active.tallyMode (s.tallies.get code.tally).value 1 := by
  have hd := code.tally_ne_noticesDropped
  rw [scanEndNoted_of code hc, (onlyNotices_notify [] _ _).tallies _ (by simp) hd]
  exact (OnlyNotices.refl [] { s with trav := { s.trav with cur := none } }).count_value (by simp) hd

theorem scanEndApplied_tallies (s : State) : TalliesKept [] s (scanEndApplied s) :=
  (OnlyNotices.refl [] s).thenScanEndApplied.tallies

theorem scanDropped_value {c : CurScan} (code : EndCode) (hc : s.trav.cur = some c) :
    ((scanDropped code s).tallies.get code.tally).value =
      countedValue s.setup.active.tallyMode (s.tallies.get code.tally).value 1 := by
  have hd := code.tally_ne_noticesDropped
  rw [scanDropped, scanEndApplied_tallies _ _ (by simp) hd]
  exact scanEndNoted_value (s := gatheringFreed s) code hc

theorem breakTaken_value (cause : Cause) (scan : Nat) (pos : Option Nat) (s : State) :
    ((breakTaken cause scan pos s).tallies.get .breaks).value =
      countedValue s.setup.active.tallyMode (s.tallies.get .breaks).value 1 := by
  rw [breakTaken, (onlyNotices_notify [] _ _).tallies _ (by simp) (by simp)]
  split
  · exact (OnlyNotices.refl [] _).thenRebroken.count_value (by simp) (by simp)
  · exact (((OnlyNotices.refl [] _).thenRaiseAlarm .brk (some cause) scan pos).update
      (g := fun u => { u with mon := { u.mon with output := true } }) fun _ _ _ => rfl).count_value (by simp) (by simp)

/-- R117 step 6, R128: a declaration leaves its record in the list. -/
theorem raiseAlarm_brk_mem (cause : Option Cause) (scan : Nat) (pos : Option Nat) (s : State) :
    ∃ r ∈ (raiseAlarm .brk cause scan pos s).alarms.records, r.kind = .brk ∧ r.state = .active ∧ r.cause = cause ∧
      r.scan = scan ∧ r.pos = pos ∧ r.rebreaks = 0 ∧ r.id = s.alarms.nextId := by
  refine ⟨newAlarm .brk cause scan pos s, ?_, rfl, rfl, rfl, rfl, rfl, rfl, rfl⟩
  rw [raiseAlarm_alarms, removeCovered, List.mem_filter]
  exact ⟨by simp, by simp [newAlarm, Alarm.covered]⟩

/-! ### A scan that a break ends (R17, R22, R76) -/

theorem scanGone_of {i : SetId} (hi : s.edge.accumulating = some i) : scanGone s =
    { s with
      edge := { s.edge.set i AccSet.free with tracker := none }
      setup := s.setup.appliedBy (scanEndPicks s.trav.scanNumber)
      trav := { s.trav with cur := none
                            stdDue := s.trav.stdDue || groupFallsDue s.trav.scanNumber s.setup.armed } } := by
  rw [scanGone, gatheringFreed_of hi]
  rfl

/-- R22: PARK is sent after a break that ended the scan, without the notices. -/
def brokenScan (cause : Cause) (scan : Nat) (pos : Option Nat) (s : State) : State :=
  stateChanged .parking (issue .park (scanGone (sheetBroken cause scan pos s)))

theorem onlyNotices_brokenScan (cause : Cause) (scan : Nat) (pos : Option Nat) (s : State) :
    OnlyNotices [.breaks, .scansBroken] (brokenScan cause scan pos s)
      (settle (park (scanDropped .broken (breakTaken cause scan pos s)))) :=
  ((((onlyNotices_breakTaken cause scan pos s).mono (by simp)).thenScanDropped .broken
    (by simp [EndCode.tally])).thenPark).thenSettle

theorem brokenScan_breaks (cause : Cause) (scan : Nat) (pos : Option Nat) (s : State) :
    ((settle (park (scanDropped .broken (breakTaken cause scan pos s)))).tallies.get .breaks).value =
      countedValue s.setup.active.tallyMode (s.tallies.get .breaks).value 1 := by
  have h := ((OnlyNotices.refl [.scansBroken] (breakTaken cause scan pos s)).thenScanDropped .broken
    (by simp [EndCode.tally])).thenPark.thenSettle
  rw [h.tallies .breaks (by simp) (by simp)]
  exact breakTaken_value cause scan pos s

theorem brokenScan_scansBroken {c : CurScan} (cause : Cause) (scan : Nat) (pos : Option Nat) (s : State)
    (hc : s.trav.cur = some c) :
    ((settle (park (scanDropped .broken (breakTaken cause scan pos s)))).tallies.get .scansBroken).value =
      countedValue s.setup.active.tallyMode (s.tallies.get .scansBroken).value 1 := by
  have h := (OnlyNotices.refl [] (scanDropped .broken (breakTaken cause scan pos s))).thenPark.thenSettle
  have k := onlyNotices_breakTaken cause scan pos s
  rw [h.tallies .scansBroken (by simp) (by simp)]
  refine (scanDropped_value .broken (by rw [k.trav]; exact hc)).trans ?_
  rw [k.setup]
  exact congrArg (fun v : Tally => countedValue _ v.value 1) (k.tallies .scansBroken (by simp) (by simp))

end Sys2Proof.Machine
end

section
namespace Sys2Proof.Machine

variable {s t : State} {i : SetId} {k : Tracker} {c : CurScan}

/-! ### The scan end event (R16) -/

theorem scanEndEvent_of (hi : s.edge.accumulating = some i) (hk : s.edge.tracker = some k)
    (hc : s.trav.cur = some c) : scanEndEvent s =
      match k.scanEdges with
      | some e => endComplete i c e s
      | none => endNoSheet c s := by
  simp only [scanEndEvent, hi, hk, hc] <;> rfl

/-- R16, R117: a scan end without sheet, where the break state permits scanning. -/
theorem endNoSheet_eq (hc : s.trav.cur = some c) (hs : s.trav.state = .scanning) (hl : NoLineEnable s)
    (hp : s.permits = true) :
    endNoSheet c s = park (scanDropped .broken (breakTaken .noSheet c.number none s)) := by
  have kb := onlyNotices_breakTaken .noSheet c.number none s
  have ke := onlyNotices_scanEndNoted .broken (gatheringFreed (breakTaken .noSheet c.number none s))
  have ht : (scanEndNoted .broken (gatheringFreed (breakTaken .noSheet c.number none s))).trav =
      { s.trav with cur := none } := ke.trav.trans (congrArg (fun v => { v with cur := none }) kb.trav)
  have hset : (scanEndNoted .broken (gatheringFreed (breakTaken .noSheet c.number none s))).setup = s.setup :=
    ke.setup.trans kb.setup
  rw [endNoSheet, breakCause_eq _ _ _ _ hp, freeAccumulating_eq, reportScanEnd_eq _ _ _ (by decide), scanDropped]
  refine congrArg park (applyScanEnd_eq s _ (by rw [ht]) (by rw [hc]; rfl) (by rw [ht]) (by rw [hset]) ?_ ?_)
  · rw [ht]
    simp [hs]
  · rw [NoLineEnable, hset]
    exact hl

/-! ### What a broken scan leaves -/

theorem brokenScan_again {cause : Cause} {scan : Nat} {pos : Option Nat} (hr : s.mon.state = .recovery) :
    (brokenScan cause scan pos s).alarms = rebrokenAlarms s.alarms := if_pos hr

theorem brokenScan_raised {cause : Cause} {scan : Nat} {pos : Option Nat} (hr : s.mon.state ≠ .recovery) :
    ∃ r ∈ (brokenScan cause scan pos s).alarms.records, r.kind = .brk ∧ r.state = .active ∧ r.cause = some cause ∧
      r.scan = scan ∧ r.pos = pos ∧ r.rebreaks = 0 := by
  have e : (brokenScan cause scan pos s).alarms = (raiseAlarm .brk (some cause) scan pos s).alarms := if_neg hr
  obtain ⟨r, hm, hkind, hstate, hcause, hscan, hpos, hreb, _⟩ := raiseAlarm_brk_mem (some cause) scan pos s
  exact ⟨r, e ▸ hm, hkind, hstate, hcause, hscan, hpos, hreb⟩

theorem permits_of (h : s.mon.state = .unproven ∨ s.mon.state = .sheetOn ∨ s.mon.state = .recovery) :
    s.permits = true := by
  rcases h with h | h | h <;> simp [State.permits, BreakState.permits, h]

end Sys2Proof.Machine

open Sys2Proof Sys2Proof.Machine

/-- Settles O29: the break and the scan end as one equation, and what the broken scan leaves in each block. -/
theorem scanEndsWithoutSheet : Obligations.ScanEndsWithoutSheet := by
  intro number pos s i k c hm hs hc hi hk hlead hl hb width a arrived
  have arrives : exec (.arrived number pos) s =
      .next (settle (park (scanDropped .broken (breakTaken .noSheet c.number none arrived)))) := by
    have he : k.scanEdges = none := by simp only [Tracker.scanEdges, hlead]
    have hp : (arrivedAt pos s).trav.state = .scanning := hs
    rw [exec_arrived_taken pos hm (.inr (.inr hs)), arrival, hp]
    dsimp only
    rw [scanEndEvent_of (s := arrivedAt pos s) hi hk hc, he]
    dsimp only
    rw [endNoSheet_eq (s := arrivedAt pos s) hc hs hl (permits_of hb)]
    rfl
  have h := onlyNotices_brokenScan .noSheet c.number none arrived
  have hedge : (brokenScan .noSheet c.number none arrived).edge =
      { s.edge.set i AccSet.free with mapping := none, jumps := 0, tracker := none } := by
    rw [brokenScan, scanGone_of (s := sheetBroken .noSheet c.number none arrived) hi]
    cases i <;> rfl
  have hbreaks := brokenScan_breaks .noSheet c.number none arrived
  have hscans := brokenScan_scansBroken .noSheet c.number none arrived (c := c) hc
  refine ⟨_, arrives, rfl, ?_⟩
  generalize settle (park (scanDropped .broken (breakTaken .noSheet c.number none arrived))) = t at *
  have hmove : t.trav.moveTimer = some t.setup.active.moveTimeout := by
    rw [h.trav, h.setup]
    rfl
  have trav {α : Type} (p : Traverse → α) : p t.trav = p (brokenScan .noSheet c.number none arrived).trav :=
    congrArg p h.trav
  exact ⟨h.link, h.carriageTx, hmove, trav Traverse.target, trav Traverse.pos, trav Traverse.scanNumber,
    ⟨h.ports, h.pending, h.freeCount⟩, h.mon, h.edge.trans hedge, h.ring, trav Traverse.state, trav Traverse.cur,
    trav Traverse.sinceStd, trav Traverse.stdDue, trav Traverse.intent, h.setup, h.std, hscans, hbreaks,
    fun hr => h.alarms ▸ brokenScan_raised hr, fun hr => h.alarms.trans (brokenScan_again hr), h.tallies⟩
end

section
namespace Sys2Proof.Machine

variable {s u : State} {f : SampleFrame} {i : SetId} {k : Tracker} {c : Converted}

/-! ### A sample at its place, as an update of the state (R3 to R5) -/

theorem placed_eq (f : SampleFrame) (s : State) : ∃ p P T, placed f s =
    { s with
      link := { s.link with up := true, silence := some s.setup.active.headTimeout, lastSeq := some f.seq }
      trav := { s.trav with pos := p }, ports := P, tallies := T } :=
  ⟨_, _, _, (onlyNotices_placed f s).eq_withPorts⟩

/-- R4: a gap counts SAMPLES_MISSING alone. -/
theorem placed_tally (f : SampleFrame) (s : State) {id : TallyId} (h : id ≠ .samplesMissing)
    (hd : id ≠ .noticesDropped) :
    (placed f s).tallies.get id = s.tallies.get id :=
  (onlyNotices_placed f s).tallies id (by simpa using h) hd

/-! ### Breaks that end a scan (R22) -/

theorem traverseBreak_scanning (hs : u.trav.state = .scanning) (hc : u.trav.cur.isSome = true) (hl : NoLineEnable u) :
    traverseBreak u = park (scanDropped .broken u) := by
  simp only [traverseBreak, hs, hc, if_true]
  rw [endScan_eq .broken u (by decide) hc (by simp [hs]) hl]

theorem takeCause_permits (cause : Cause) (scan : Nat) (pos : Option Nat) (hp : u.permits = true) :
    takeCause cause scan pos u = traverseBreak (breakTaken cause scan pos u) := by
  simp only [takeCause, hp, if_true, tellTraverse, breakCause_eq cause scan pos u hp]

/-- R64, R117: a break measured in SCANNING, where the break state permits scanning. -/
theorem takeCause_scanning (cause : Cause) (scan : Nat) (pos : Option Nat) (hs : u.trav.state = .scanning)
    (hc : u.trav.cur.isSome = true) (hl : NoLineEnable u) (hp : u.permits = true) :
    takeCause cause scan pos u = park (scanDropped .broken (breakTaken cause scan pos u)) := by
  have kb := onlyNotices_breakTaken cause scan pos u
  rw [takeCause_permits cause scan pos hp, traverseBreak_scanning]
  · rw [kb.trav]
    exact hs
  · rw [kb.trav]
    exact hc
  · rw [NoLineEnable, kb.setup]
    exact hl

/-! ### AIR samples in a scan (R60 to R64) -/

theorem inExpectedSpan_eq (mapping : Option Edges) (margin pos : Nat) :
    inExpectedSpan mapping margin pos = match mapping with
      | some m => decide (m.front + margin ≤ pos ∧ pos + margin ≤ m.back)
      | none => false := by
  cases mapping <;> simp [inExpectedSpan]

/-- R61: before the leading edge. -/
theorem airSampleStep_lead (hl : k.leading = none) : airSampleStep i k c u =
    { u with edge := { u.edge with tracker := some { k with sheetRun := 0, sheetFirst := none } } } := by
  simp [airSampleStep, airRunSent, airTracked, hl, Tracker.lead, State.onEdge]

/-- R63: the first sample of a run. -/
theorem airSampleStep_first (hl : k.leading.isSome = true) (ha : k.air = none) : airSampleStep i k c u =
    { u with edge := { u.edge with tracker := some { k with
        air := some
          ⟨c.pos, 1, inExpectedSpan u.edge.mapping (u.edge.get i).snap.edgeMargin c.pos, false, false⟩ } } } := by
  simp [airSampleStep, airRunSent, airTracked, hl, ha, airSample, sendsAirRun, Tracker.airStep, State.onEdge]

/-- R63, R64: a further sample of a run. -/
theorem airSampleStep_further {run : AirRun} (hl : k.leading.isSome = true) (ha : k.air = some run) :
    let inSpan := run.inSpan && inExpectedSpan u.edge.mapping (u.edge.get i).snap.edgeMargin c.pos
    let reach := run.reach || decide ((u.edge.get i).snap.breakSpan ≤ absDiff c.pos run.first)
    let sends := reach && inSpan && !run.reach
    let air : State := { u with edge := { u.edge with tracker := some { k with
      air := some { run with count := run.count + 1, inSpan := inSpan, reach := reach, sent := run.sent || sends } } } }
    airSampleStep i k c u =
      if sends then takeCause .airRun (u.edge.get i).scan (some run.first) air else air := by
  intro inSpan reach sends air
  have hsent : airRunSent i k c u = if sends then some run.first else none := by
    simp [airRunSent, hl, ha, airSample, sendsAirRun, sends, reach, inSpan]
  have htracked : airTracked i k c u = air := by
    simp [airTracked, hl, ha, airSample, sendsAirRun, Tracker.airStep, State.onEdge, air, sends, reach, inSpan]
  rw [airSampleStep, hsent, htracked]
  cases sends <;> rfl

end Sys2Proof.Machine

open Sys2Proof Sys2Proof.Machine

/-- Settles O20: the run's steps as equations, and the sample that breaks as a scan ended by a break. -/
theorem airRunsInTheSpanDeclareABreak : Obligations.AirRunsInTheSpanDeclareABreak := by
  intro f s i k c hs hi hk hseq hF hD hc snap ht leaves expected
  have arrives {u : State} (h : airSampleStep i k c (placed f s) = u) : exec (.sample f) s = .next (settle u) := by
    rw [exec_sample_scanning hs hi hk hseq hF hD hc, if_pos ht, h]
  have hexp : inExpectedSpan s.edge.mapping snap.edgeMargin c.pos = expected := inExpectedSpan_eq _ _ _
  refine ⟨fun hl => arrives ?_, fun hl ha => arrives ?_, fun run hl ha => ?_⟩
  · rw [airSampleStep_lead hl, placed_edge]
  · rw [airSampleStep_first hl ha, placed_edge, hexp]
  intro inSpan reach
  have further := airSampleStep_further (i := i) (u := placed f s) (c := c) hl ha
  dsimp only at further
  rw [placed_edge, hexp] at further
  refine ⟨fun hno => arrives ?_, fun cur m hin hreach hnew hcur hmap hnl hb => ?_⟩
  · have hsend : (reach && inSpan && !run.reach) = false := by
      rcases hno with h | h | h <;> simp [h]
    rw [further, hsend, Bool.or_false, if_neg (by simp)]
  intro air
  have hspan : run.inSpan = true ∧ expected = true := by simpa [inSpan] using hin
  obtain ⟨hrunSpan, hexpected⟩ := hspan
  have hsends : airSampleStep i k c (placed f s) = takeCause .airRun (s.edge.get i).scan (some run.first) air := by
    have hr : (run.reach || decide (snap.breakSpan ≤ absDiff c.pos run.first)) = true := hreach
    rw [further, hr, hexpected, hrunSpan, hnew]
    simp only [Bool.and_true, Bool.not_false, Bool.or_true, if_true, air]
    rw [← hrunSpan]
  have broken := takeCause_scanning .airRun (s.edge.get i).scan (some run.first) (u := air) hs
    (Option.isSome_of_eq_some hcur) (by simpa [NoLineEnable, air] using hnl) (permits_of (by simpa [air] using hb))
  have stepped : exec (.sample f) s =
      .next (settle (park (scanDropped .broken (breakTaken .airRun (s.edge.get i).scan (some run.first) air)))) :=
    arrives (hsends.trans broken)
  have h := onlyNotices_brokenScan .airRun (s.edge.get i).scan (some run.first) air
  have hbreaks := brokenScan_breaks .airRun (s.edge.get i).scan (some run.first) air
  have hscans := brokenScan_scansBroken .airRun (s.edge.get i).scan (some run.first) air (c := cur) hcur
  have hraised := brokenScan_raised (cause := .airRun) (scan := (s.edge.get i).scan) (pos := some run.first) (s := air)
  have hagain := brokenScan_again (cause := .airRun) (scan := (s.edge.get i).scan) (pos := some run.first) (s := air)
  have hedge : (brokenScan .airRun (s.edge.get i).scan (some run.first) air).edge =
      { s.edge.set i AccSet.free with mapping := none, jumps := 0, tracker := none } := by
    rw [brokenScan, scanGone_of (s := sheetBroken .airRun (s.edge.get i).scan (some run.first) air) hi]
    cases i <;> rfl
  refine ⟨_, stepped, rfl, ?_⟩
  generalize settle (park (scanDropped .broken (breakTaken .airRun (s.edge.get i).scan (some run.first) air))) = t at *
  have trav {α : Type} (p : Traverse → α) := congrArg p h.trav
  have kept : TalliesKept [.breaks, .scansBroken] (placed f s) t := h.tallies
  have hports : PortsKept s t := (onlyNotices_placed f s).ports.trans h.ports
  rw [show air.tallies.get .breaks = s.tallies.get .breaks from placed_tally f s (by simp) (by simp)] at hbreaks
  rw [show air.tallies.get .scansBroken = s.tallies.get .scansBroken from
    placed_tally f s (by simp) (by simp)] at hscans
  obtain ⟨p, P, T, hplaced⟩ := placed_eq f s
  have hair : air = { s with
      link := { s.link with up := true, silence := some s.setup.active.headTimeout, lastSeq := some f.seq }
      trav := { s.trav with pos := p }, ports := P, tallies := T
      edge := { s.edge with tracker := some { k with
        air := some { run with count := run.count + 1, reach := true, sent := true } } } } := by
    simp only [air, hplaced]
  clear_value air
  clear hsends broken stepped further
  subst hair
  have hmove : t.trav.moveTimer = some t.setup.active.moveTimeout := by
    rw [h.trav, h.setup]
    rfl
  have hmon := h.mon
  simp only [brokenScan, sheetBroken, hmap, Option.map_some, Option.some_or, ite_self] at hmon
  refine ⟨hmon, h.edge.trans hedge, h.ring, trav Traverse.state, trav Traverse.cur,
    trav Traverse.intent, hmove, trav Traverse.target, trav Traverse.scanNumber,
    h.link, h.carriageTx, ⟨hports, h.pending, h.freeCount⟩, trav Traverse.stdDue, h.setup, h.std,
    fun hr => h.alarms ▸ hraised hr, fun hr => h.alarms.trans (hagain hr), hbreaks, hscans, kept⟩
end

section
namespace Sys2Proof.Machine

variable {s u : State} {f : SampleFrame} {c : Converted}

/-! ### Breaks outside a scan (R22) -/

/-- R116: in BREAK and THREADING a measured cause has no effect. -/
theorem takeCause_quiet (cause : Cause) (scan : Nat) (pos : Option Nat)
    (h : u.mon.state = .brk ∨ u.mon.state = .threading) : takeCause cause scan pos u = u := by
  have hp : u.permits = false := by
    rcases h with h | h <;> simp [State.permits, BreakState.permits, h]
  rw [takeCause, hp]
  rcases h with h | h <;> simp [tellTraverse, breakCause, h]

theorem sheetBroken_again {cause : Cause} {scan : Nat} {pos : Option Nat} (hr : s.mon.state = .recovery) :
    (sheetBroken cause scan pos s).alarms = rebrokenAlarms s.alarms := if_pos hr

theorem sheetBroken_raised {cause : Cause} {scan : Nat} {pos : Option Nat} (hr : s.mon.state ≠ .recovery) :
    ∃ r ∈ (sheetBroken cause scan pos s).alarms.records, r.kind = .brk ∧ r.state = .active ∧ r.cause = some cause ∧
      r.scan = scan ∧ r.pos = pos ∧ r.rebreaks = 0 :=
  brokenScan_raised hr

theorem OnlyNotices.thenSetDwell {ids : List TallyId} {b : State} (h : OnlyNotices ids b s) (d : DwellAcc) :
    OnlyNotices ids (b.setDwell d) (s.setDwell d) :=
  h.update (g := fun u => u.setDwell d) fun _ _ _ => rfl

theorem traverseBreak_dwelling (hs : u.trav.state = .dwelling) :
    traverseBreak u = park (u.setDwell DwellAcc.empty) := by
  simp only [traverseBreak, hs]
  rfl

/-- R22: a break where the head waits, moves to a target or dwells: it parks; without the notices. -/
def brokenMove (cause : Cause) (scan : Nat) (pos : Option Nat) (d : DwellAcc) (s : State) : State :=
  stateChanged .parking (issue .park ((sheetBroken cause scan pos s).setDwell d))

theorem onlyNotices_brokenMove (cause : Cause) (scan : Nat) (pos : Option Nat) (d : DwellAcc) (s : State) :
    OnlyNotices [.breaks] (brokenMove cause scan pos d s)
      (settle (park ((breakTaken cause scan pos s).setDwell d))) :=
  ((onlyNotices_breakTaken cause scan pos s).thenSetDwell d).thenPark.thenSettle

theorem brokenMove_breaks (cause : Cause) (scan : Nat) (pos : Option Nat) (d : DwellAcc) (s : State) :
    ((settle (park ((breakTaken cause scan pos s).setDwell d))).tallies.get .breaks).value =
      countedValue s.setup.active.tallyMode (s.tallies.get .breaks).value 1 := by
  have h := ((OnlyNotices.refl [] (breakTaken cause scan pos s)).thenSetDwell d).thenPark.thenSettle
  rw [h.tallies .breaks (by simp) (by simp)]
  exact breakTaken_value cause scan pos s

/-- R10: only entering FAULT stops the move timer. -/
theorem stateChanged_moving {st : TravState} (h : st ≠ .fault) (s : State) :
    stateChanged st s = { s with trav := { s.trav with state := st } } := by
  simp [stateChanged, h]

/-- R10, R13: PARK starts the move timer and leaves head-at-park. -/
theorem issue_park (s : State) : issue .park s =
    { s with
      link := { s.link with cmdNo := s.link.cmdNo + 1, lastMotion := some (s.link.cmdNo + 1) }
      trav := { s.trav with moveTimer := some s.setup.active.moveTimeout }
      carriageTx := if s.link.up then s.carriageTx ++ [⟨s.link.cmdNo + 1, .park⟩] else s.carriageTx } := by
  simp [issue, HeadCmd.isMotion, HeadCmd.isMove]

theorem brokenMove_trav (cause : Cause) (scan : Nat) (pos : Option Nat) (d : DwellAcc) (s : State) :
    (brokenMove cause scan pos d s).trav = { s.trav with
      state := .parking, moveTimer := some s.setup.active.moveTimeout, dwell := d } := by
  rw [brokenMove, stateChanged_moving (by simp), issue_park]
  rfl

/-! ### Samples in DWELLING (R21) -/

theorem exec_sample_dwelling (hs : s.trav.state = .dwelling) (hseq : s.link.lastSeq ≠ some f.seq)
    (hF : indexFFlag f = false) (hD : indexDFlag f = false)
    (hc : convert s.std.current s.setup.active f (placed f s).trav.pos = some c) :
    exec (.sample f) s = .next (settle
      (if s.setup.active.airThreshold ≤ c.t then dwellAir (placed f s) else dwellSheet c (placed f s))) := by
  rw [exec_sample_placed hseq hF hD, deliver_dwelling (s := placed f s) hs]
  simp only [dwellSample, placed_std, placed_setup, hc, isAir, decide_eq_true_eq]

/-- R21: the sums after a SHEET sample, in the terms of the statement. -/
theorem DwellAcc.add_eq (d : DwellAcc) (c : Converted) : d.add c =
    ⟨d.n + 1, d.sBw + c.bw, d.nMo + (if c.water.isSome then 1 else 0), d.sW + (c.water.map Prod.fst).getD 0,
      d.sD + (c.water.map Prod.snd).getD 0, d.nCa + (if c.cal.isSome then 1 else 0), d.sC + c.cal.getD 0, 0⟩ := by
  obtain ⟨pos, t, bw, water, cal⟩ := c
  cases water <;> rfl

/-- R21: the AIR sample that fills the run. -/
theorem dwellAir_full (h : u.setup.active.dwellBreakSamples ≤ u.trav.dwell.air + 1) : dwellAir u =
    takeCause .dwellAir u.trav.scanNumber (some u.trav.dwellPos) (u.setDwell { u.trav.dwell with air := 0 }) := by
  rw [dwellAir, if_pos h]

theorem dwellAir_short (h : u.trav.dwell.air + 1 < u.setup.active.dwellBreakSamples) :
    dwellAir u = u.setDwell { u.trav.dwell with air := u.trav.dwell.air + 1 } := by
  rw [dwellAir, if_neg (not_le.2 h)]

end Sys2Proof.Machine

open Sys2Proof Sys2Proof.Machine

/-- Settles O21: the sums sample by sample, and the full air run as a break in DWELLING. -/
theorem dwellSamplesAreAveraged : Obligations.DwellSamplesAreAveraged := by
  intro f s c hs hseq hF hD hc a d after n sBw nMo sW sD nCa sC
  have steps := exec_sample_dwelling hs hseq hF hD hc
  have hset : (placed f s).setup = s.setup := placed_setup f s
  have hsheet (ht : c.t < a.airThreshold) : exec (.sample f) s = .next (settle (dwellSheet c (placed f s))) := by
    rw [steps, if_neg (not_le.2 ht)]
  have hadd : (placed f s).trav.dwell.add c = ⟨n, sBw, nMo, sW, sD, nCa, sC, 0⟩ := DwellAcc.add_eq d c
  have hfull (ha : a.airThreshold ≤ c.t) (hn : a.dwellBreakSamples ≤ d.air + 1) : exec (.sample f) s = .next (settle
      (takeCause .dwellAir s.trav.scanNumber (some s.trav.dwellPos) (after { d with air := 0 }))) := by
    rw [steps, if_pos ha, dwellAir_full (u := placed f s) (by rw [hset]; exact hn)]
    rfl
  refine ⟨fun ht hn => ?_, fun ht hn => ?_, fun ha hn => ?_, fun ha hn => ⟨fun hb => ?_, fun hb => ?_⟩⟩
  · rw [hsheet ht, dwellSheet, hadd, hset, if_neg (not_le.2 hn)]
    rfl
  · rw [hsheet ht, dwellSheet, hadd, hset, if_pos hn]
    rfl
  · rw [steps, if_pos ha, dwellAir_short (u := placed f s) (by rw [hset]; exact hn)]
    rfl
  · have hq : (after { d with air := 0 }).mon.state = .brk ∨ (after { d with air := 0 }).mon.state = .threading := by
      simpa only [after, placed_mon] using hb
    rw [hfull ha hn, takeCause_quiet _ _ _ hq]
  intro width broken
  let air := after { d with air := 0 }
  have hmonWas : air.mon = s.mon := placed_mon f s
  have stepped : exec (.sample f) s = .next (settle (park (broken.setDwell DwellAcc.empty))) := by
    have kb := onlyNotices_breakTaken .dwellAir s.trav.scanNumber (some s.trav.dwellPos) air
    have hdwell : broken.trav.state = .dwelling := (congrArg Traverse.state kb.trav).trans hs
    rw [hfull ha hn, takeCause_permits _ _ _ (u := air) (permits_of (by rwa [hmonWas])), traverseBreak_dwelling hdwell]
  have h := onlyNotices_brokenMove .dwellAir s.trav.scanNumber (some s.trav.dwellPos) .empty air
  have hbreaks := brokenMove_breaks .dwellAir s.trav.scanNumber (some s.trav.dwellPos) .empty air
  refine ⟨_, stepped, rfl, ?_⟩
  change OnlyNotices _ _ (settle (park (broken.setDwell DwellAcc.empty))) at h
  change ((settle (park (broken.setDwell DwellAcc.empty))).tallies.get .breaks).value = _ at hbreaks
  generalize settle (park (broken.setDwell DwellAcc.empty)) = t at *
  have kept : TalliesKept [.breaks] (placed f s) t := h.tallies
  have hports : PortsKept s t := (onlyNotices_placed f s).ports.trans h.ports
  have halarms : t.alarms = (sheetBroken .dwellAir s.trav.scanNumber (some s.trav.dwellPos) air).alarms := h.alarms
  have hraised (hr : s.mon.state ≠ .recovery) : ∃ r ∈ t.alarms.records, r.kind = .brk ∧ r.state = .active ∧
      r.cause = some .dwellAir ∧ r.scan = s.trav.scanNumber ∧ r.pos = some s.trav.dwellPos ∧ r.rebreaks = 0 := by
    rw [halarms]
    exact sheetBroken_raised (by rwa [hmonWas])
  have hagain (hr : s.mon.state = .recovery) : t.alarms = rebrokenAlarms s.alarms := by
    rw [halarms, ← placed_alarms f s]
    exact sheetBroken_again (s := air) (by rwa [hmonWas])
  rw [show air.tallies.get .breaks = s.tallies.get .breaks from placed_tally f s (by simp) (by simp),
    show air.setup = s.setup from hset] at hbreaks
  obtain ⟨p, P, T, hplaced⟩ := placed_eq f s
  have hpos : (placed f s).trav.pos = p := by rw [hplaced]
  rw [hpos]
  have hair : air = { s with
      link := { s.link with up := true, silence := some s.setup.active.headTimeout, lastSeq := some f.seq }
      trav := { s.trav with pos := p, dwell := { d with air := 0 } }, ports := P, tallies := T } := by
    simp only [air, after, hplaced]
  clear_value air
  subst hair
  exact ⟨⟨hports, h.pending, h.freeCount⟩, h.mon, h.edge, h.ring, h.trav.trans (brokenMove_trav _ _ _ _ _), h.link,
    h.carriageTx, h.setup, h.std, hraised, hagain, hbreaks, kept⟩
end

section
namespace Sys2Proof.Machine

variable {s u : State}

/-! ### The break line's assertion edge (R116) -/

theorem lineEdge_brk_broke (hd : u.mon.brk.debounced = true) (hp : u.permits = true) :
    lineEdge .brk u = traverseBreak (breakTaken .line u.trav.scanNumber none u) := by
  simp only [lineEdge, edgeEffect, edgeEvent, BreakMonitor.line, hd, hp, if_true, tellTraverse,
    breakCause_eq _ _ _ u hp]

/-- R116: in BREAK and THREADING the edge has no other effect. -/
theorem lineEdge_brk_passed (hd : u.mon.brk.debounced = true) (hp : u.permits = false) : lineEdge .brk u = u := by
  simp [lineEdge, edgeEffect, edgeEvent, BreakMonitor.line, hd, hp, tellTraverse]

/-! ### What a break makes of the traverse (R22) -/

theorem traverseBreak_eq (hl : NoLineEnable u) (hc : u.trav.state = .scanning → u.trav.cur.isSome = true) :
    traverseBreak u = match u.trav.state with
      | .scanning => park (scanDropped .broken u)
      | .turnWait | .positioning => park u
      | .dwelling => park (u.setDwell DwellAcc.empty)
      | .idle | .parking | .standardizing | .fault => u := by
  cases hs : u.trav.state
  case scanning => exact traverseBreak_scanning hs (hc hs) hl
  case dwelling => exact traverseBreak_dwelling hs
  all_goals simp only [traverseBreak, hs]

theorem brokenStill_breaks (cause : Cause) (scan : Nat) (pos : Option Nat) (s : State) :
    ((settle (breakTaken cause scan pos s)).tallies.get .breaks).value =
      countedValue s.setup.active.tallyMode (s.tallies.get .breaks).value 1 := by
  have h := (OnlyNotices.refl [] (breakTaken cause scan pos s)).thenSettle
  rw [h.tallies .breaks (by simp) (by simp)]
  exact breakTaken_value cause scan pos s

/-! ### The head after a break -/

theorem brokenScan_trav (cause : Cause) (scan : Nat) (pos : Option Nat) (s : State) :
    (brokenScan cause scan pos s).trav = { s.trav with
      state := .parking
      moveTimer := some (s.setup.appliedBy (scanEndPicks s.trav.scanNumber)).active.moveTimeout
      cur := none
      stdDue := s.trav.stdDue || groupFallsDue s.trav.scanNumber s.setup.armed } := by
  rw [brokenScan, stateChanged_moving (by simp), issue_park]
  rfl

theorem brokenScan_edge (cause : Cause) (scan : Nat) (pos : Option Nat) (s : State) :
    (brokenScan cause scan pos s).edge = { (match s.edge.accumulating with
      | some i => s.edge.set i AccSet.free
      | none => s.edge) with mapping := none, jumps := 0, tracker := none } := by
  change (gatheringFreed (sheetBroken cause scan pos s)).edge = _
  have he : (sheetBroken cause scan pos s).edge.accumulating = s.edge.accumulating := rfl
  unfold gatheringFreed
  rw [he]
  cases s.edge.accumulating with
  | none => rfl
  | some i => cases i <;> rfl

end Sys2Proof.Machine

open Sys2Proof Sys2Proof.Machine

/-- Settles O32: the break as one equation, and what it leaves by the state in which it finds the head. -/
theorem breakLineDeclaresABreak : Obligations.BreakLineDeclaresABreak := by
  intro s ht hlev hdeb hl hc hn edge scanning parks broken moves
  have arrives {v : State} (hv : lineEdge .brk (s.levelled .brk true) = v) :
      exec (.lineDebounceExpiry .brk) s = .next (settle v) := by
    rw [exec_lineDebounceExpiry_edge (l := .brk) ht (by simp [BreakMonitor.line, hlev, hdeb]),
      takeLevel_eq (l := .brk) hlev, hv]
  let asserted : State := { s with mon := { s.mon with brk := edge } }
  have kb := onlyNotices_breakTaken .line s.trav.scanNumber none asserted
  have htrav : broken.trav = s.trav := kb.trav
  have hset : broken.setup = s.setup := kb.setup
  let left : State := match s.trav.state with
    | .scanning => park (scanDropped .broken broken)
    | .turnWait | .positioning => park broken
    | .dwelling => park (broken.setDwell DwellAcc.empty)
    | .idle | .parking | .standardizing | .fault => broken
  have stepped (hp : s.permits = true) : exec (.lineDebounceExpiry .brk) s = .next (settle left) := by
    refine arrives ((lineEdge_brk_broke (u := s.levelled .brk true) rfl hp).trans ?_)
    refine (traverseBreak_eq (u := broken) (by rwa [NoLineEnable, hset]) (by rwa [htrav])).trans ?_
    rw [htrav]
  let B := sheetBroken .line s.trav.scanNumber none asserted
  have hsame : broken.setDwell s.trav.dwell = broken := by
    rw [← htrav]
    rfl
  have parked (d : DwellAcc) (hns : s.trav.state ≠ .scanning) (hparks : parks = true)
      (hd : (if s.trav.state = .dwelling then ⟨0, 0, 0, 0, 0, 0, 0, 0⟩ else s.trav.dwell) = d)
      (hleft : left = park (broken.setDwell d)) : moves (settle left) ∧ (settle left).mon = B.mon ∧
        (settle left).ring = B.ring ∧ (settle left).alarms = B.alarms ∧ (settle left).std = s.std ∧
        ((settle left).tallies.get .breaks).value =
          countedValue s.setup.active.tallyMode (s.tallies.get .breaks).value 1 := by
    have h := onlyNotices_brokenMove .line s.trav.scanNumber none d asserted
    have hbreaks := brokenMove_breaks .line s.trav.scanNumber none d asserted
    rw [show settle (park ((breakTaken .line s.trav.scanNumber none asserted).setDwell d)) = settle left from
      congrArg settle hleft.symm] at h hbreaks
    have hscanning : scanning = false := decide_eq_false hns
    refine ⟨?_, h.mon, h.ring, h.alarms, h.std, hbreaks⟩
    simp only [moves, hscanning, hparks, hd, Bool.false_and, Bool.or_false, if_true, if_false, Bool.false_eq_true]
    have trav {α : Type} (p : Traverse → α) := congrArg p (h.trav.trans (brokenMove_trav _ _ _ _ _))
    have hmove : (settle left).trav.moveTimer = some (settle left).setup.active.moveTimeout := by
      rw [h.setup]
      exact trav Traverse.moveTimer
    exact ⟨trav Traverse.intent, trav Traverse.scanNumber, (trav Traverse.cur).trans (hn hns), trav Traverse.stdDue,
      h.setup, by cases s.edge.accumulating <;> exact h.edge, trav Traverse.dwell, trav Traverse.target,
      trav Traverse.pos, trav Traverse.atPark, ⟨trav Traverse.state, hmove, h.link, h.carriageTx⟩,
      congrArg Tally.value (h.tallies .scansBroken (by simp) (by simp)), h.tallies,
      ⟨h.ports, h.pending, h.freeCount⟩, rfl⟩
  have facts : moves (settle left) ∧ (settle left).mon = B.mon ∧ (settle left).ring = B.ring ∧
      (settle left).alarms = B.alarms ∧ (settle left).std = s.std ∧
      ((settle left).tallies.get .breaks).value =
        countedValue s.setup.active.tallyMode (s.tallies.get .breaks).value 1 := by
    cases hs : s.trav.state
    case scanning =>
      have hleft : left = park (scanDropped .broken broken) := by simp only [left, hs]
      have h := onlyNotices_brokenScan .line s.trav.scanNumber none asserted
      have hbreaks := brokenScan_breaks .line s.trav.scanNumber none asserted
      obtain ⟨c, hcur⟩ := Option.isSome_iff_exists.1 (hc hs)
      have hscans := brokenScan_scansBroken .line s.trav.scanNumber none asserted (c := c) hcur
      rw [hleft]
      generalize hgen : settle (park (scanDropped .broken broken)) = t
      rw [show settle (park (scanDropped .broken (breakTaken .line s.trav.scanNumber none asserted))) = t from hgen]
        at h hbreaks hscans
      refine ⟨?_, h.mon, h.ring, h.alarms, h.std, hbreaks⟩
      simp only [moves, scanning, parks, hs, decide_true, Bool.true_and, if_true, true_or, reduceCtorEq, if_false]
      have trav {α : Type} (p : Traverse → α) := congrArg p (h.trav.trans (brokenScan_trav _ _ _ _))
      have hmove : t.trav.moveTimer = some t.setup.active.moveTimeout := by
        rw [h.setup]
        exact trav Traverse.moveTimer
      exact ⟨trav Traverse.intent, trav Traverse.scanNumber, trav Traverse.cur, trav Traverse.stdDue, h.setup,
        h.edge.trans (brokenScan_edge _ _ _ _), trav Traverse.dwell, trav Traverse.target, trav Traverse.pos,
        trav Traverse.atPark, ⟨trav Traverse.state, hmove, h.link, h.carriageTx⟩, hscans, h.tallies,
        ⟨h.ports, h.pending, h.freeCount⟩, hgen.symm⟩
    case dwelling =>
      exact parked DwellAcc.empty (by simp [hs]) (by simp [parks, hs]) (if_pos hs) (by simp only [left, hs])
    case turnWait | positioning =>
      exact parked s.trav.dwell (by simp [hs]) (by simp [parks, hs]) (if_neg (by simp [hs]))
        ((show left = park broken by simp only [left, hs]).trans (congrArg park (hsame.symm)))
    case idle | parking | standardizing | fault =>
      have hleft : left = broken := by simp only [left, hs]
      have h := (onlyNotices_breakTaken .line s.trav.scanNumber none asserted).thenSettle
      have hbreaks := brokenStill_breaks .line s.trav.scanNumber none asserted
      rw [hleft]
      generalize hgen : settle broken = t
      rw [show settle (breakTaken .line s.trav.scanNumber none asserted) = t from hgen] at h hbreaks
      refine ⟨?_, h.mon, h.ring, h.alarms, h.std, hbreaks⟩
      simp only [moves, scanning, parks, hs, decide_false, Bool.false_and, Bool.or_false, or_self, reduceCtorEq,
        if_false, Bool.false_eq_true]
      have trav {α : Type} (p : Traverse → α) := congrArg p h.trav
      have hcur : t.trav.cur = none := (trav Traverse.cur).trans (hn (by simp [hs]))
      exact ⟨trav Traverse.intent, trav Traverse.scanNumber, hcur, trav Traverse.stdDue, h.setup,
        by cases s.edge.accumulating <;> exact h.edge, trav Traverse.dwell, trav Traverse.target, trav Traverse.pos,
        trav Traverse.atPark, ⟨(trav Traverse.state).trans hs, trav Traverse.moveTimer, h.link, h.carriageTx⟩,
        congrArg Tally.value (h.tallies .scansBroken (by simp) (by simp)), h.tallies,
        ⟨h.ports, h.pending, h.freeCount⟩, hgen.symm⟩
  obtain ⟨hmoves, hmon, hring, halarms, hstd, hbreaks⟩ := facts
  refine ⟨fun hm => ?_, fun hr => ?_, fun hq => ?_⟩
  · have hr : s.mon.state ≠ .recovery := by rcases hm with h | h <;> simp [h]
    have hB : B.mon = { s.mon with
        state := .brk, recovery := 0, stdInBreak := false, brk := edge, output := true
        refWidth := s.edge.mapping.map (fun m => m.back - m.front) } := by
      simp [B, sheetBroken, asserted, hr]
    obtain ⟨r, hmem, hkind, hstate, hcause, hscan, hpos, hreb, hid⟩ :=
      raiseAlarm_brk_mem (some .line) s.trav.scanNumber none asserted
    have hmem' : r ∈ (settle left).alarms.records := by
      rw [halarms, show B.alarms = _ from if_neg hr]
      exact hmem
    exact ⟨_, stepped (permits_of (by tauto)), hmon.trans hB, hring,
      ⟨r, hmem', hkind, hstate, hcause, hpos, hscan, hreb, hid⟩, hbreaks, hstd, hmoves⟩
  · have hB : B.mon = { s.mon with
        state := .brk, recovery := 0, stdInBreak := false, brk := edge
        refWidth := (s.edge.mapping.map (fun m => m.back - m.front)).or s.mon.refWidth } := by
      simp [B, sheetBroken, asserted, hr]
    exact ⟨_, stepped (permits_of (.inr (.inr hr))), hmon.trans hB, hring,
      halarms.trans (sheetBroken_again (s := asserted) hr), hbreaks, hstd, hmoves⟩
  · have hp : s.permits = false := by
      rcases hq with h | h <;> simp [State.permits, BreakState.permits, h]
    exact arrives (lineEdge_brk_passed (u := s.levelled .brk true) rfl hp)
end

section
namespace Sys2Proof.Machine

variable {s u : State}

/-! ### A scan end in STANDARDIZING (R153) -/

/-- R153: in STANDARDIZING a group that falls due at a scan end sets the group-due mark. -/
theorem applyScanEnd_standardizing (was : Bool) (s : State) (hs : s.trav.cur = none)
    (ht : s.trav.state = .standardizing) (hl : NoLineEnable s) :
    ∃ mark, applyScanEnd was s =
      (appliedAt .scanEnd (scanEndPicks s.trav.scanNumber) s).onSetup fun t => { t with groupMark := mark } := by
  have he (line : Line) :
      (appliedAt .scanEnd (scanEndPicks s.trav.scanNumber) s).setup.active.enabled line =
        s.setup.active.enabled line := by
    rw [appliedAt_setup]
    exact enabled_foldl_put line _ _ fun e m => hl e (List.mem_filter.1 m).1
  have htest : ∃ mark, testGroup was (appliedAt .scanEnd (scanEndPicks s.trav.scanNumber) s) =
      (appliedAt .scanEnd (scanEndPicks s.trav.scanNumber) s).onSetup fun t => { t with groupMark := mark } := by
    have hw := congrArg Traverse.state (appliedAt_trav .scanEnd (scanEndPicks s.trav.scanNumber) s)
    unfold testGroup
    rw [hw, ht]
    split
    · exact ⟨true, if_pos rfl⟩
    · exact ⟨(appliedAt .scanEnd (scanEndPicks s.trav.scanNumber) s).setup.groupMark, rfl⟩
  obtain ⟨mark, hmark⟩ := htest
  refine ⟨mark, ?_⟩
  unfold applyScanEnd
  dsimp only
  rw [applyArmed_eq, scanEndSelects_eq s hs, hmark, enableInScanEnd_same, enableInScanEnd_same]
  · exact he .brk
  · rw [enableInScanEnd_same]
    · exact he .tail
    · exact he .brk

/-! ### Head faults (R23) -/

theorem headFault_taken (hf : u.trav.state ≠ .fault) (hi : u.trav.state ≠ .idle ∨ u.link.up = true) :
    headFault u = takeHeadFault u := by
  unfold headFault
  cases hs : u.trav.state <;> simp_all

/-- R23: FAULT already entered. -/
theorem headFault_fault (hf : u.trav.state = .fault) : headFault u = u := by
  simp only [headFault, hf]

theorem exec_headStatus_faults (s : State) {flags : BitVec 8} (h : flags.getLsbD 0 = false ∨ flags.getLsbD 1 = true) :
    exec (.headStatus flags) s = .next (settle (headFault { s with link := { s.link with
      up := true, silence := some s.setup.active.headTimeout, headPresent := flags.getLsbD 0 } })) := by
  have hstatus : statusFaults flags = true := by
    rcases h with h | h <;>
      simp only [statusFaults, presentFlag, faultFlag, h, Bool.not_false, Bool.true_or, Bool.or_true]
  simp only [exec, execHeadStatus, hstatus, if_true]
  rfl

theorem exec_silenceTimerExpiry_running (h : s.link.silence.isSome = true) : exec .silenceTimerExpiry s =
    if s.trav.state = .idle then
      .next { linkDown s with trav := { s.trav with atPark := false, stdDue := true } }
    else .next (settle (headFault (linkDown s))) := by
  have hn : s.link.silence.isNone = false := by simpa using h
  simp only [exec, execSilenceTimerExpiry, hn, Bool.false_eq_true, if_false]
  rfl

/-- R38, R153: a standardization abandoned. -/
def flightAbandoned (s : State) : State :=
  { s with std := { s.std with flight := none }, setup := { s.setup with groupMark := false } }

/-- R23: what FAULT makes of the traverse controller besides its state. -/
def faultFlags (s : State) : State :=
  { s with trav := { s.trav with dwell := DwellAcc.empty, atPark := false, stdDue := true } }

/-- R23: a head fault that is taken, with the end of its scan and its standardization. -/
def headStopped (u : State) : State :=
  let ended := if u.trav.cur.isSome then scanDropped .headFault (issue .stop u) else issue .stop u
  changeState .fault (faultFlags (if u.trav.state = .standardizing then flightAbandoned ended else ended))

/-- R23: the same, without its notices. -/
def headGone (u : State) : State :=
  let ended := if u.trav.cur.isSome then scanGone (issue .stop u) else issue .stop u
  stateChanged .fault (faultFlags (if u.trav.state = .standardizing then flightAbandoned ended else ended))

theorem enterFault_false (u : State) : enterFault false u = changeState .fault (faultFlags u) := by
  simp [enterFault, faultFlags, State.onTrav]

/-- R38, R153: a scan end that abandons its standardization leaves no mark of the group, whatever fell due. -/
theorem endScan_abandoned (code : EndCode) (h : code ≠ .complete) (ht : u.trav.state = .standardizing)
    (hl : NoLineEnable u) :
    faultFlags (abandonStandardization (endScan code u)) = faultFlags (flightAbandoned (scanDropped code u)) := by
  have k := onlyNotices_scanEndNoted code (gatheringFreed u)
  have kt : (scanEndNoted code (gatheringFreed u)).trav = { u.trav with cur := none } := k.trav
  have ks : (scanEndNoted code (gatheringFreed u)).setup = u.setup := k.setup
  obtain ⟨mark, hmark⟩ := applyScanEnd_standardizing u.groupDue (scanEndNoted code (gatheringFreed u)) (by rw [kt])
    (by rw [kt]; exact ht) (by rw [NoLineEnable, ks]; exact hl)
  have hw := congrArg Traverse.state
    (appliedAt_trav .scanEnd (scanEndPicks (scanEndNoted code (gatheringFreed u)).trav.scanNumber)
      (scanEndNoted code (gatheringFreed u)))
  rw [kt, ht] at hw
  rw [endScan, freeAccumulating_eq, reportScanEnd_eq code 0 _ h, hmark, scanDropped, scanEndApplied, kt]
  dsimp only
  generalize appliedAt _ _ (scanEndNoted code (gatheringFreed u)) = w at hw
  rw [abandonStandardization, if_pos (show (w.onSetup _).trav.state = .standardizing from hw)]
  rfl

theorem takeHeadFault_eq (hl : NoLineEnable u) : takeHeadFault u = headStopped u := by
  have habandon (w : State) (hw : w.trav.state = u.trav.state) : abandonStandardization w =
      if u.trav.state = .standardizing then flightAbandoned w else w := by
    rw [abandonStandardization, hw]
    rfl
  unfold takeHeadFault headStopped
  dsimp only
  rw [enterFault_false]
  by_cases hc : u.trav.cur.isSome = true
  · have hc' : (issue .stop u).trav.cur.isSome = true := hc
    rw [if_pos hc, if_pos hc']
    by_cases ht : u.trav.state = .standardizing
    · rw [if_pos ht, endScan_abandoned (u := issue .stop u) .headFault (by simp) ht hl]
    · rw [endScan_eq (s := issue .stop u) .headFault (by simp) hc ht hl, habandon]
      have k := (OnlyNotices.refl [EndCode.headFault.tally] (issue .stop u)).thenScanDropped .headFault (by simp)
      exact (congrArg Traverse.state k.trav).trans rfl
  · have hc' : ¬ (issue .stop u).trav.cur.isSome = true := hc
    rw [if_neg hc, if_neg hc', habandon (issue .stop u) rfl]

/-- R38: what is abandoned is the flight of the state before the fault. -/
theorem headStopped_spelled (u : State) :
    let ended := if u.trav.cur.isSome then scanDropped .headFault (issue .stop u) else issue .stop u
    let abandoned : State :=
      if u.trav.state = .standardizing then
        { ended with std := { u.std with flight := none }, setup := { ended.setup with groupMark := false } }
      else ended
    headStopped u = changeState .fault (faultFlags abandoned) := by
  intro ended abandoned
  have hstd : ended.std = u.std := by
    simp only [ended]
    split
    · exact ((OnlyNotices.refl [EndCode.headFault.tally] (issue .stop u)).thenScanDropped .headFault (by simp)).std
    · rfl
  have hflight : (if u.trav.state = .standardizing then flightAbandoned ended else ended) = abandoned := by
    simp only [abandoned, flightAbandoned, hstd]
  rw [headStopped, hflight]

theorem onlyNotices_headStopped (u : State) :
    OnlyNotices (if u.trav.cur.isSome then [.scansFaulted] else []) (headGone u) (settle (headStopped u)) := by
  have ended : OnlyNotices (if u.trav.cur.isSome then [.scansFaulted] else [])
      (if u.trav.cur.isSome then scanGone (issue .stop u) else issue .stop u)
      (if u.trav.cur.isSome then scanDropped .headFault (issue .stop u) else issue .stop u) := by
    split
    · exact (OnlyNotices.refl _ (issue .stop u)).thenScanDropped .headFault (by simp [EndCode.tally])
    · exact OnlyNotices.refl _ _
  have abandoned := ended.update
    (g := fun w => faultFlags (if u.trav.state = .standardizing then flightAbandoned w else w))
    fun _ _ _ => by split <;> rfl
  exact (abandoned.thenChangeState .fault).thenSettle

theorem headGone_trav (u : State) : (headGone u).trav = { u.trav with
    state := .fault, dwell := DwellAcc.empty, atPark := false, stdDue := true, moveTimer := none, cur := none } := by
  cases hc : u.trav.cur <;> by_cases ht : u.trav.state = .standardizing <;>
    simp [headGone, hc, ht, scanGone, endApplied, flightAbandoned, faultFlags, stateChanged, issue, HeadCmd.isMotion,
      HeadCmd.isMove]

theorem headGone_std (u : State) : (headGone u).std =
    { u.std with flight := if u.trav.state = .standardizing then none else u.std.flight } := by
  by_cases hc : u.trav.cur.isSome = true <;> by_cases ht : u.trav.state = .standardizing <;>
    simp only [headGone, hc, ht, if_true, if_false] <;> rfl

theorem headGone_setup (u : State) : (headGone u).setup =
    { (if u.trav.cur.isSome then u.setup.appliedBy (scanEndPicks u.trav.scanNumber) else u.setup) with
      groupMark := u.setup.groupMark && decide (u.trav.state ≠ .standardizing) } := by
  by_cases hc : u.trav.cur.isSome = true <;> by_cases ht : u.trav.state = .standardizing <;>
    simp only [headGone, hc, ht, if_true, if_false, ne_eq, not_true, not_false_iff, decide_true, decide_false,
      Bool.and_true, Bool.and_false] <;> rfl

theorem headGone_edge (u : State) :
    (headGone u).edge = if u.trav.cur.isSome then (gatheringFreed u).edge else u.edge := by
  by_cases hc : u.trav.cur.isSome = true <;> by_cases ht : u.trav.state = .standardizing <;>
    simp only [headGone, hc, ht, if_true, if_false] <;> rfl

theorem headGone_link (u : State) : (headGone u).link = { u.link with cmdNo := u.link.cmdNo + 1 } := by
  by_cases hc : u.trav.cur.isSome = true <;> by_cases ht : u.trav.state = .standardizing <;>
    simp only [headGone, hc, ht, if_true, if_false] <;> rfl

theorem headGone_rest (u : State) : (headGone u).ring = u.ring ∧ (headGone u).mon = u.mon ∧
    (headGone u).alarms = u.alarms ∧ (headGone u).ports = u.ports ∧ (headGone u).tallies = u.tallies ∧
    (headGone u).pending = u.pending ∧ (headGone u).freeCount = u.freeCount ∧
    (headGone u).carriageTx =
      if u.link.up then u.carriageTx ++ [⟨u.link.cmdNo + 1, .stop⟩] else u.carriageTx := by
  by_cases hc : u.trav.cur.isSome = true <;> by_cases ht : u.trav.state = .standardizing <;>
    simp only [headGone, hc, ht, if_true, if_false] <;> exact ⟨rfl, rfl, rfl, rfl, rfl, rfl, rfl, rfl⟩

theorem headStopped_value (hs : u.trav.cur.isSome = true) :
    ((settle (headStopped u)).tallies.get .scansFaulted).value =
      countedValue u.setup.active.tallyMode (u.tallies.get .scansFaulted).value 1 := by
  obtain ⟨c, hc⟩ := Option.isSome_iff_exists.1 hs
  have abandoned := (OnlyNotices.refl [] (scanDropped .headFault (issue .stop u))).update
    (g := fun w => faultFlags (if u.trav.state = .standardizing then flightAbandoned w else w))
    fun _ _ _ => by split <;> rfl
  have h := (abandoned.thenChangeState .fault).thenSettle
  have kept := h.tallies .scansFaulted (by simp) (by simp)
  rw [headStopped, if_pos hs]
  refine (congrArg Tally.value kept).trans (Eq.trans ?_ (scanDropped_value (s := issue .stop u) .headFault hc))
  by_cases ht : u.trav.state = .standardizing <;> simp only [ht, if_true, if_false] <;> rfl

end Sys2Proof.Machine

open Sys2Proof Sys2Proof.Machine

/-- Settles O30: what a taken head fault leaves, and the three events that are one. -/
theorem headFaultsStopTheFrame : Obligations.HeadFaultsStopTheFrame := by
  intro s hl linked down setup faults
  have faulted (L : CarriageLink) (hf : s.trav.state ≠ .fault) :
      faults { s with link := L } (.next (settle (headStopped { s with link := L }))) := by
    let u : State := { s with link := L }
    have h := onlyNotices_headStopped u
    have hvalue := headStopped_value (u := u)
    refine ⟨settle (headStopped u), rfl, ?_⟩
    generalize hgen : settle (headStopped u) = t at h hvalue ⊢
    obtain ⟨hring, hmon, halarms, hports, htallies, hpending, hfree, htx⟩ := headGone_rest u
    have trav {α : Type} (p : Traverse → α) := congrArg p (h.trav.trans (headGone_trav u))
    have kept : PortsKept s t := by
      have k := h.ports
      rwa [PortsKept, hports] at k
    have htally := h.tallies
    rw [TalliesKept, htallies] at htally
    refine ⟨⟨kept, h.pending.trans hpending, h.freeCount.trans hfree⟩, trav Traverse.target, ?_, trav Traverse.state,
      trav Traverse.intent, trav Traverse.atPark, trav Traverse.stdDue, trav Traverse.dwell, trav Traverse.cur,
      trav Traverse.moveTimer, trav Traverse.scanNumber, trav Traverse.failCount, h.link.trans (headGone_link u),
      h.carriageTx.trans htx, h.std.trans (headGone_std u), h.mon.trans hmon, h.ring.trans hring,
      h.alarms.trans halarms, h.setup.trans (headGone_setup u), fun hc => ?_, fun hc => ?_⟩
    · exact hgen.symm.trans (congrArg settle (headStopped_spelled u))
    · have hc' : u.trav.cur.isSome = true := hc
      rw [if_pos hc'] at htally
      refine ⟨fun i hi => ?_, hvalue hc', htally⟩
      rw [h.edge, headGone_edge, if_pos hc', gatheringFreed_of (s := u) hi]
    · have hc' : ¬ u.trav.cur.isSome = true := by simp [u, hc]
      rw [if_neg hc'] at htally
      refine ⟨?_, htally⟩
      rw [h.edge, headGone_edge, if_neg hc']
  have taken (L : CarriageLink) (hf : s.trav.state ≠ .fault) (hi : s.trav.state ≠ .idle ∨ L.up = true) :
      headFault { s with link := L } = headStopped { s with link := L } :=
    (headFault_taken (u := { s with link := L }) hf hi).trans (takeHeadFault_eq hl)
  refine ⟨fun flags hflags => ⟨fun hf => ?_, fun hf => ?_⟩, fun hm hf hi => ?_,
    fun hsil => ⟨fun hi => ?_, fun hf => ?_, fun hi hf => ?_⟩⟩
  · rw [exec_headStatus_faults s hflags, taken _ hf (.inr rfl)]
    exact faulted _ hf
  · exact (exec_headStatus_faults s hflags).trans (congrArg (fun w => Host.Outcome.next (settle w))
      (headFault_fault (u := { s with link := { linked.link with headPresent := flags.getLsbD 0 } }) hf))
  · have hmove : headFault (s.onTrav fun t => { t with moveTimer := none }) = headStopped s :=
      (headFault_taken (u := s.onTrav fun t => { t with moveTimer := none }) hf hi).trans (takeHeadFault_eq hl)
    have hn : s.trav.moveTimer.isNone = false := by simpa using hm
    simp only [exec, execMoveTimerExpiry, hn, Bool.false_eq_true, if_false, hmove]
    exact faulted s.link hf
  · exact (exec_silenceTimerExpiry_running hsil).trans (if_pos hi)
  · have hi : s.trav.state ≠ .idle := by simp [hf]
    refine ((exec_silenceTimerExpiry_running hsil).trans (if_neg hi)).trans ?_
    rw [headFault_fault (u := linkDown s) hf]
    rfl
  · rw [(exec_silenceTimerExpiry_running hsil).trans (if_neg hi), linkDown, State.onLink, taken _ hf (.inl hi)]
    exact faulted _ hf
end

section
namespace Sys2Proof.Machine

variable {s u : State}

/-! ### The entry of a finalized set (R80 to R93) -/

theorem newest_eq (r : Ring) : r.newest = (r.entries.filter fun e => !e.marked).getLast? := by
  rw [Ring.newest, List.getLast?_eq_head?_reverse, ← List.filter_reverse, List.head?_filter]

/-- R85: the conditions of a reseed, in the statement's order. -/
theorem reseeds_eq (r : Ring) (a : AccSet) : reseeds r a =
    (r.flush || (r.reseedPending && decide (r.breakScan < a.scan)) || (r.newest.map fun e =>
      decide (e.header.binOrigin ≠ a.snap.binOrigin ∨ e.header.binWidth ≠ a.snap.binWidth ∨
        e.header.binCount ≠ a.snap.binCount)).getD true) := by
  unfold reseeds Ring.breakRule
  cases r.newest with
  | none => simp
  | some e =>
    have hgeometry : (!sameGeometry e a.snap) = decide (e.header.binOrigin ≠ a.snap.binOrigin ∨
        e.header.binWidth ≠ a.snap.binWidth ∨ e.header.binCount ≠ a.snap.binCount) := by
      rw [Bool.eq_iff_iff]
      simp only [sameGeometry, Bool.not_eq_true', Bool.and_eq_false_iff, decide_eq_false_iff_not,
        decide_eq_true_eq, or_assoc, ne_eq]
    dsimp only
    rw [hgeometry, Option.map_some, Option.getD_some, Bool.or_assoc, Bool.or_comm]

/-- R94: a pin of some port. -/
theorem pinned_iff (r : Ring) (scan : Nat) : r.pinned scan = true ↔ ∃ p, r.pins.get p = some scan := by
  constructor
  · intro h
    simp only [Ring.pinned, Bool.or_eq_true, decide_eq_true_eq] at h
    rcases h with (h | h) | h
    · exact ⟨.sp0, h⟩
    · exact ⟨.sp1, h⟩
    · exact ⟨.sp2, h⟩
  · rintro ⟨p, h⟩
    cases p <;> simp_all [Ring.pinned, PerPort.get]

/-- R93: the oldest unpinned entry of a full ring makes room. -/
theorem room_of_oldest {r : Ring} {older newer : List RingEntry} {old : RingEntry} (hfull : 4 ≤ r.entries.length)
    (he : r.entries = older ++ old :: newer) (ho : ∀ x ∈ older, r.pinned x.header.scan = true)
    (hold : r.pinned old.header.scan = false) : r.room = older ++ newer := by
  rw [Ring.room, if_pos hfull, he, List.eraseP_append_right _ (by simpa using ho),
    List.eraseP_cons_of_pos (by simp [hold])]

theorem zonesOf_isSome (a : AccSet) (body : PerKind (List Cell)) :
    (zonesOf a body).isSome = true ↔ a.mapping.isSome = true ∧ 1 ≤ a.snap.zoneCount := by
  unfold zonesOf
  cases a.mapping with
  | none => simp
  | some m => by_cases h : 1 ≤ a.snap.zoneCount <;> simp [h]

theorem formCells_get {a : AccSet} {reseed : Bool} {prev : Option RingEntry} {x : ScanEdges} {k : Kind} {j : Nat}
    {b : Bin} (h : a.bins[j]? = some b) :
    (formCells a x reseed prev k)[j]? = some (formCell a.snap x reseed prev k j b) := by
  simp [formCells, h]

theorem PerKind.get_of {α : Type} (f : Kind → α) (k : Kind) : (PerKind.of f).get k = f k := by cases k <;> rfl

/-- R80 step 8, written out as an update of the state. -/
theorem passOn_eq (i : SetId) (s : State) : passOn i s = { s with edge :=
    let freed := s.edge.set i AccSet.free
    match i with
    | .x => if s.edge.y.state = .waiting then { freed with y := { s.edge.y with state := .finalizing } } else freed
    | .y =>
      if s.edge.x.state = .waiting then { freed with x := { s.edge.x with state := .finalizing } } else freed } := by
  unfold passOn
  cases i
  · by_cases h : s.edge.y.state = .waiting <;>
      simp only [SetId.other, State.onSet, State.onEdge, EdgeUnit.set, EdgeUnit.get, h, if_true, if_false]
  · by_cases h : s.edge.x.state = .waiting <;>
      simp only [SetId.other, State.onSet, State.onEdge, EdgeUnit.set, EdgeUnit.get, h, if_true, if_false]

/-- R80: the entry and the state that a finalization makes. -/
theorem finalizedAs (s : State) (i : SetId) :
    FinalizedAs s i (formEntry (s.edge.get i) s.ring s.mon.state)
      (passOn i { s with ring := s.ring.add (formEntry (s.edge.get i) s.ring s.mon.state) }) := by
  unfold FinalizedAs
  intro a previous broke reseeds' freed passed pinned
  have hprevious : s.ring.newest = previous := newest_eq s.ring
  have hreseeds : reseeds s.ring a = reseeds' := by rw [reseeds_eq, newest_eq]
  have hpinned (e : RingEntry) : s.ring.pinned e.header.scan = true ↔ pinned e := pinned_iff _ _
  have hbody (k : Kind) : (formEntry a s.ring s.mon.state).body.get k =
      formCells a a.scanEdges reseeds' previous k := by
    rw [← hreseeds, ← hprevious]
    exact PerKind.get_of _ k
  have hedges (x : ScanEdges) (hx : a.edges = some x) : a.scanEdges = x := by rw [AccSet.scanEdges, hx]; rfl
  refine ⟨s.ring.room, rfl, rfl, rfl, hedges, rfl, rfl, rfl, rfl, hreseeds, rfl, rfl, rfl, rfl, rfl, rfl,
    zonesOf_isSome a _, rfl, ?_, fun k => ?_, fun x k j b hx hb => ?_, fun k => PerKind.get_of _ k,
    fun hlen => if_neg (not_le.2 hlen), fun older old newer hfull he ho hold => ?_, ?_⟩
  · simp only [formEntry, controlValid, Bool.and_eq_true, decide_eq_true_eq, Bool.not_eq_true', and_assoc]
    rfl
  · rw [hbody, formCells, List.length_mapIdx]
  · rw [hbody, hedges x hx]
    exact formCells_get hb
  · refine room_of_oldest hfull he (fun x hx => (hpinned x).2 (ho x hx)) ?_
    rw [← Bool.not_eq_true, hpinned]
    exact hold
  · rw [passOn_eq]
    rfl

/-! ### A scan start, without its notices (R15, R151) -/

/-- R15: the scan `n` in set `i`, the armed entries having been applied; the state not yet SCANNING. -/
def scanOpened (i : SetId) (dir : Dir) (n : Nat) (w : State) : State :=
  let begun : State :=
    { w with
      trav := { w.trav with scanNumber := n, cur := some ⟨n, dir, false⟩ }
      edge := { w.edge.set i (claimedFor n dir w) with tracker := some ⟨0, none, none, none, none, none⟩ } }
  let sent := issue (.move (w.targetPos dir.farPoint)) begun
  { sent with trav := { sent.trav with target := some dir.farPoint } }

theorem scanBegun_eq (i : SetId) (dir : Dir) (s : State) : scanBegun i dir s = changeState .scanning
    (scanOpened i dir (s.trav.scanNumber + 1) (appliedAt .scanStart (scanStartPicks s) s)) := by
  cases dir <;> rfl

/-- R15, R151: a scan start, without its notices. -/
def scanStarted (i : SetId) (dir : Dir) (s : State) : State :=
  stateChanged .scanning
    (scanOpened i dir (s.trav.scanNumber + 1) { s with setup := s.setup.appliedBy (scanStartPicks s) })

theorem onlyNotices_scanBegun (ids : List TallyId) (i : SetId) (dir : Dir) (s : State) :
    OnlyNotices ids (scanStarted i dir s) (scanBegun i dir s) := by
  rw [scanBegun_eq]
  exact ((((OnlyNotices.refl ids s).thenAppliedAt .scanStart (scanStartPicks s)).update
    (g := scanOpened i dir (s.trav.scanNumber + 1)) fun _ _ _ => by cases dir <;> rfl)).thenChangeState .scanning

theorem scanStarted_get (i : SetId) (dir : Dir) (s : State) : (scanStarted i dir s).edge.get i =
    claimedFor (s.trav.scanNumber + 1) dir { s with setup := s.setup.appliedBy (scanStartPicks s) } := by
  cases i <;> rfl

theorem scanStarted_get_other (i : SetId) (dir : Dir) (s : State) :
    (scanStarted i dir s).edge.get i.other = s.edge.get i.other := by
  cases i <;> rfl

/-- R10: the move timeout is an IMMEDIATE item. -/
theorem moveTimeout_put (a : Setup) (i : Item) (v : SetupValue) (h : i.cls = .atScanEnd) :
    (a.put i v).moveTimeout = a.moveTimeout := by
  have hm : i ≠ .moveTimeout := by
    rintro rfl
    exact absurd h (by decide)
  cases i <;> cases v <;> first | rfl | exact absurd rfl hm

theorem moveTimeout_foldl_put (l : List Armed) (a : Setup) (h : ∀ e ∈ l, e.item.cls = .atScanEnd) :
    (l.foldl (fun a e => a.put e.item e.value) a).moveTimeout = a.moveTimeout := by
  induction l generalizing a with
  | nil => rfl
  | cons e rest ih =>
    rw [List.foldl_cons, ih _ fun x hx => h x (by simp [hx]), moveTimeout_put a _ _ (h e (by simp))]

theorem scanStartPicks_moveTimeout (s : State) :
    (s.setup.appliedBy (scanStartPicks s)).active.moveTimeout = s.setup.active.moveTimeout := by
  refine moveTimeout_foldl_put _ _ fun x hx => ?_
  have hp := (List.mem_filter.1 hx).2
  simp only [scanStartPicks, Bool.and_eq_true, decide_eq_true_eq] at hp
  exact hp.1

end Sys2Proof.Machine

open Sys2Proof Sys2Proof.Machine

/-- Settles O36: the entry joins the ring, and the scan starts in the freed set. -/
theorem finalizedInTurnWaitStartsAScan : Obligations.FinalizedInTurnWaitStartsAScan := by
  intro s i dir hi hs ht hn other hw n
  let e := formEntry (s.edge.get i) s.ring s.mon.state
  let u := passOn i { s with ring := s.ring.add e }
  have has : FinalizedAs s i e u := finalizedAs s i
  have hother : i.other = other := by cases i <;> rfl
  have hu : u.trav = s.trav := passOn_trav _ _
  have hfreed : u.edge.get i = AccSet.free := passOn_get i _
  have hwaiting : u.edge.get i.other = { s.edge.get other with state := .finalizing } := by
    rw [← hother]
    refine (passOn_get_other i _).trans (if_pos ?_)
    rw [hother]
    exact hw
  have hfree : u.edge.freeSet = some i := by
    cases i
    · exact freeSet_eq_some.2 (.inl ⟨rfl, congrArg AccSet.state hfreed⟩)
    · exact freeSet_eq_some.2 (.inr ⟨rfl, by rw [show u.edge.x = _ from hwaiting]; simp, congrArg AccSet.state hfreed⟩)
  have hdir : turnWaitDir u = dir := by
    rw [turnWaitDir, hu, ht]
    cases dir <;> rfl
  have stepped : exec .finalized s = .next (settle (notify (readyNotice e) (scanBegun i dir u))) := by
    have hstate : u.trav.state = .turnWait := by rw [hu, hs]
    have h : finalizeSet i s = notify (readyNotice e) (if u.trav.state = .turnWait then startScan (turnWaitDir u) u
      else u) := rfl
    simp only [exec, execFinalized, hi, h]
    rw [if_pos hstate, hdir, startScan_begins dir hfree (by rw [hu]; exact hn)]
  have h := ((onlyNotices_scanBegun [] i dir u).thenNotify (readyNotice e)).thenSettle
  have hlast : (s.ring.add e).entries.getLast? = some e := List.getLast?_concat
  have happlied := scanStartPicks_moveTimeout s
  obtain ⟨E, hE⟩ : ∃ E, u = { s with edge := E, ring := s.ring.add e } := ⟨_, passOn_eq i _⟩
  refine ⟨_, stepped, ?_⟩
  generalize hgen : settle (notify (readyNotice e) (scanBegun i dir u)) = t at h
  have joined : ∃ (e : RingEntry) (u : State), FinalizedAs s i e u ∧
      t = settle (notify (readyNotice e) (scanBegun i dir u)) := ⟨e, u, has, hgen.symm⟩
  clear_value u
  clear has stepped hgen
  subst hE
  have trav {α : Type} (p : Traverse → α) := congrArg p h.trav
  have hlastScan : t.ring.entries.getLast?.map (fun e => e.header.scan) = some (s.edge.get i).scan := by
    rw [h.ring, show (scanStarted i dir _).ring = s.ring.add e from rfl, hlast]
    rfl
  have hget : t.edge.get i = claimedFor n dir _ := (congrArg (EdgeUnit.get · i) h.edge).trans (scanStarted_get i dir _)
  have hget' : t.edge.get other = { s.edge.get other with state := .finalizing } := by
    rw [← hwaiting, ← hother]
    exact (congrArg (EdgeUnit.get · i.other) h.edge).trans (scanStarted_get_other i dir _)
  have hgeneration : (t.edge.get i).snap.generation = t.setup.generation := by
    rw [hget, h.setup]
    rfl
  have hmove : t.trav.moveTimer = some s.setup.active.moveTimeout :=
    (trav Traverse.moveTimer).trans (congrArg some happlied)
  refine ⟨trav Traverse.state, trav Traverse.cur, trav Traverse.scanNumber, hget', by rw [hget]; rfl, by rw [hget]; rfl,
    by rw [hget]; rfl, hgeneration, hlastScan, joined, ⟨h.ports, h.pending, h.freeCount⟩, ?_, ?_, h.link, hmove, h.mon,
    h.alarms, h.setup, h.std, h.tallies⟩
  · cases dir <;> exact trav Traverse.target
  · rw [h.setup]
    cases dir <;> exact h.carriageTx
end

section
/-! ## Proofs: the end of a scan that found sheet (R16, R68, R124) -/

namespace Sys2Proof.Machine

variable {s t b u : State} {ids : List TallyId} {i : SetId} {e : ScanEdges}

/-! ### The monitor's part, without its notices (R124 to R126) -/

/-- R126 step 2: the alarm list after the sheet is proven. -/
def clearedAlarms (l : AlarmList) : AlarmList :=
  match l.records.find? (fun r => decide (r.state = .active)) with
  | none => l
  | some r =>
    { l with records := removeCovered r.id (onActive (fun a => { a with state := .cleared }) l.records) }

/-- R125, R126: the scan end proves the sheet. -/
def provesSheet (width : Nat) (s : State) : Bool :=
  decide (s.mon.state = .recovery) && goodRecovery s width &&
    decide (s.setup.active.recoveryScans ≤ s.mon.recovery + 1)

/-- R124 to R126: the monitor after a COMPLETE scan end. -/
def reportedMon (width : Nat) (s : State) : BreakMonitor :=
  match s.mon.state with
  | .unproven => { s.mon with state := .sheetOn }
  | .recovery =>
    if provesSheet width s then { s.mon with state := .sheetOn, recovery := 0, refWidth := none, output := false }
    else { s.mon with recovery := if goodRecovery s width then s.mon.recovery + 1 else 0 }
  | .sheetOn | .brk | .threading => s.mon

/-- R124 to R126: a COMPLETE scan end in the monitor, without its notices. -/
def sheetReported (width : Nat) (s : State) : State :=
  { s with mon := reportedMon width s
           alarms := if provesSheet width s then clearedAlarms s.alarms else s.alarms }

theorem OnlyNotices.thenClearBreakAlarm (h : OnlyNotices ids b s) :
    OnlyNotices ids { b with alarms := clearedAlarms b.alarms } (clearBreakAlarm s) := by
  have ha : s.activeAlarm = b.alarms.records.find? (fun r => decide (r.state = .active)) := by
    rw [State.activeAlarm, h.alarms]
  unfold clearBreakAlarm clearedAlarms
  rw [ha]
  cases b.alarms.records.find? (fun r => decide (r.state = .active)) with
  | none => exact h
  | some r =>
    have cleared := h.update (g := fun s => s.onAlarms (onActive (fun a => { a with state := .cleared })))
      fun _ _ _ => rfl
    exact (cleared.thenNotify _).update (g := fun s => s.onAlarms (removeCovered r.id)) fun _ _ _ => rfl

theorem OnlyNotices.thenProvenSheet (h : OnlyNotices ids b s) : OnlyNotices ids
    { b with mon := { b.mon with state := .sheetOn, recovery := 0, refWidth := none, output := false }
             alarms := clearedAlarms b.alarms } (provenSheet s) := by
  have k := (h.update (g := fun s => s.onMon fun m => { m with state := .sheetOn, recovery := 0, refWidth := none })
    fun _ _ _ => rfl).thenClearBreakAlarm.update (g := fun s => s.onMon fun m => { m with output := false })
    fun _ _ _ => rfl
  exact k.thenNotify _

theorem reportComplete_other (width : Nat) (h : s.mon.state ≠ .unproven ∧ s.mon.state ≠ .recovery) :
    reportComplete width s = s ∧ sheetReported width s = s := by
  have hp : provesSheet width s = false := by simp [provesSheet, h.2]
  constructor
  · unfold reportComplete
    cases hm : s.mon.state <;> simp_all
  · rw [sheetReported, hp, reportedMon]
    cases hm : s.mon.state <;> simp_all

theorem onlyNotices_reportComplete (ids : List TallyId) (width : Nat) (s : State) :
    OnlyNotices ids (sheetReported width s) (reportComplete width s) := by
  by_cases hu : s.mon.state = .unproven
  · have hbase : sheetReported width s = s.onMon fun m => { m with state := .sheetOn } := by
      simp [sheetReported, reportedMon, provesSheet, hu, State.onMon]
    rw [hbase, reportComplete, hu]
    exact (OnlyNotices.refl ids _).thenNotify _
  by_cases hr : s.mon.state = .recovery
  · rw [reportComplete, hr]
    dsimp only [State.onMon]
    by_cases hg : goodRecovery s width = true
    · rw [if_pos hg]
      by_cases hn : s.setup.active.recoveryScans ≤ s.mon.recovery + 1
      · have hp : provesSheet width s = true := by simp [provesSheet, hr, hg, hn]
        have k := (OnlyNotices.refl ids (s.onMon fun m => { m with recovery := m.recovery + 1 })).thenProvenSheet
        rw [if_pos hn]
        simp only [sheetReported, reportedMon, hr, hp, if_true]
        exact k
      · have hbase : sheetReported width s = s.onMon fun m => { m with recovery := m.recovery + 1 } := by
          simp [sheetReported, reportedMon, provesSheet, hr, hg, hn, State.onMon]
        rw [if_neg hn, hbase]
        exact OnlyNotices.refl ids _
    · have hbase : sheetReported width s = s.onMon fun m => { m with recovery := 0 } := by
        simp [sheetReported, reportedMon, provesSheet, hr, hg, State.onMon]
      rw [if_neg hg, hbase]
      exact OnlyNotices.refl ids _
  · obtain ⟨hreport, hbase⟩ := reportComplete_other width ⟨hu, hr⟩
    rw [hreport, hbase]
    exact OnlyNotices.refl ids s

theorem OnlyNotices.thenReportComplete (h : OnlyNotices ids b s) (width : Nat) :
    OnlyNotices ids (sheetReported width b) (reportComplete width s) :=
  (h.update (g := sheetReported width) fun _ _ _ => rfl).trans (onlyNotices_reportComplete ids width s)

theorem sheetReported_permits (width : Nat) (h : s.permits = true) : (sheetReported width s).permits = true := by
  cases hm : s.mon.state
  case recovery =>
    by_cases hp : provesSheet width s = true <;>
      simp [sheetReported, reportedMon, hm, hp, State.permits, BreakState.permits]
  all_goals simp_all [sheetReported, reportedMon, State.permits, BreakState.permits]

/-! ### The mapping edges (R68) -/

/-- R66: the set of the ended scan with its edges. -/
def edgesTaken (i : SetId) (e : ScanEdges) (s : State) : State :=
  { s with edge := s.edge.set i { s.edge.get i with edges := some e } }

/-- R68: the mapping edges taken from a scan. -/
def edgesAdopted (e : ScanEdges) (s : State) : State :=
  { s with edge := { s.edge with mapping := some ⟨e.front, e.back⟩, jumps := 0 } }

/-- R68: a jump is counted and alarmed. -/
def jumpNoted (scan : Nat) (at_ : Nat) (s : State) : State :=
  raiseAlarm .edgeJump none scan (some at_) (count .edgeJumps 1 s)

/-- R66, R68: the state when the set of the ended scan has its edges and the mapping edges have been brought up. -/
def mappedAt (i : SetId) (e : ScanEdges) (s : State) : State :=
  let set := s.edge.get i
  match set.slipped, s.edge.mapping with
  | true, _ => edgesTaken i e s
  | false, none => edgesAdopted e (edgesTaken i e s)
  | false, some m =>
    let front := absDiff e.front m.front
    let back := absDiff e.back m.back
    let jumped := jumpNoted set.scan (if front < back then e.back else e.front) (edgesTaken i e s)
    if front ≤ set.snap.edgeTol ∧ back ≤ set.snap.edgeTol then edgesAdopted e (edgesTaken i e s)
    else if set.snap.edgeAccept ≤ s.edge.jumps + 1 then edgesAdopted e jumped
    else { jumped with edge := { jumped.edge with jumps := s.edge.jumps + 1 } }

theorem jumpNoted_edge (scan at_ : Nat) (s : State) : (jumpNoted scan at_ s).edge = s.edge := by simp [jumpNoted]

theorem mappedAt_slipped (h : (s.edge.get i).slipped = true) : mappedAt i e s = edgesTaken i e s := by
  simp only [mappedAt, h]

theorem mappedAt_fresh (h : (s.edge.get i).slipped = false) (hm : s.edge.mapping = none) :
    mappedAt i e s = edgesAdopted e (edgesTaken i e s) := by
  simp only [mappedAt, h, hm]

theorem mappedAt_within {m : Edges} (h : (s.edge.get i).slipped = false) (hm : s.edge.mapping = some m)
    (hf : absDiff e.front m.front ≤ (s.edge.get i).snap.edgeTol)
    (hb : absDiff e.back m.back ≤ (s.edge.get i).snap.edgeTol) :
    mappedAt i e s = edgesAdopted e (edgesTaken i e s) := by
  simp only [mappedAt, h, hm]
  exact if_pos ⟨hf, hb⟩

/-- R68: the jump of a scan, at the edge that differs more. -/
def edgeJump (i : SetId) (e : ScanEdges) (m : Edges) (s : State) : State :=
  jumpNoted (s.edge.get i).scan (if absDiff e.front m.front < absDiff e.back m.back then e.back else e.front)
    (edgesTaken i e s)

theorem mappedAt_accepted {m : Edges} (h : (s.edge.get i).slipped = false) (hm : s.edge.mapping = some m)
    (hf : ¬ (absDiff e.front m.front ≤ (s.edge.get i).snap.edgeTol ∧
      absDiff e.back m.back ≤ (s.edge.get i).snap.edgeTol))
    (ha : (s.edge.get i).snap.edgeAccept ≤ s.edge.jumps + 1) :
    mappedAt i e s = edgesAdopted e (edgeJump i e m s) := by
  simp only [mappedAt, h, hm]
  exact (if_neg hf).trans (if_pos ha)

theorem mappedAt_held {m : Edges} (h : (s.edge.get i).slipped = false) (hm : s.edge.mapping = some m)
    (hf : ¬ (absDiff e.front m.front ≤ (s.edge.get i).snap.edgeTol ∧
      absDiff e.back m.back ≤ (s.edge.get i).snap.edgeTol))
    (ha : ¬ (s.edge.get i).snap.edgeAccept ≤ s.edge.jumps + 1) :
    mappedAt i e s = { edgeJump i e m s with edge := { (edgeJump i e m s).edge with jumps := s.edge.jumps + 1 } } := by
  simp only [mappedAt, h, hm]
  exact (if_neg hf).trans (if_neg ha)

/-- R68: the four outcomes. -/
theorem mappedAt_cases (i : SetId) (e : ScanEdges) (s : State) :
    mappedAt i e s = edgesTaken i e s ∨ mappedAt i e s = edgesAdopted e (edgesTaken i e s) ∨
      ∃ m, mappedAt i e s = edgesAdopted e (edgeJump i e m s) ∨
        mappedAt i e s =
          { edgeJump i e m s with edge := { (edgeJump i e m s).edge with jumps := s.edge.jumps + 1 } } := by
  cases h : (s.edge.get i).slipped with
  | true => exact .inl (mappedAt_slipped h)
  | false =>
    cases hm : s.edge.mapping with
    | none => exact .inr (.inl (mappedAt_fresh h hm))
    | some m =>
      by_cases hf : absDiff e.front m.front ≤ (s.edge.get i).snap.edgeTol ∧
          absDiff e.back m.back ≤ (s.edge.get i).snap.edgeTol
      · exact .inr (.inl (mappedAt_within h hm hf.1 hf.2))
      · by_cases ha : (s.edge.get i).snap.edgeAccept ≤ s.edge.jumps + 1
        · exact .inr (.inr ⟨m, .inl (mappedAt_accepted h hm hf ha)⟩)
        · exact .inr (.inr ⟨m, .inr (mappedAt_held h hm hf ha)⟩)

theorem edgeJump_edge (i : SetId) (e : ScanEdges) (m : Edges) (s : State) :
    (edgeJump i e m s).edge = (edgesTaken i e s).edge := jumpNoted_edge _ _ _

/-- R68: only the mapping edges and the count of jumps change. -/
theorem mappedAt_edge (i : SetId) (e : ScanEdges) (s : State) : ∃ m j, (mappedAt i e s).edge =
    { s.edge.set i { s.edge.get i with edges := some e } with mapping := m, jumps := j } := by
  rcases mappedAt_cases i e s with h | h | ⟨m, h | h⟩ <;> rw [h]
  · exact ⟨(edgesTaken i e s).edge.mapping, (edgesTaken i e s).edge.jumps, rfl⟩
  · exact ⟨_, _, rfl⟩
  · exact ⟨some ⟨e.front, e.back⟩, 0, congrArg
      (fun u : EdgeUnit => { u with mapping := some ⟨e.front, e.back⟩, jumps := 0 }) (edgeJump_edge i e m s)⟩
  · exact ⟨(edgesTaken i e s).edge.mapping, s.edge.jumps + 1, congrArg
      (fun u : EdgeUnit => { u with jumps := s.edge.jumps + 1 }) (edgeJump_edge i e m s)⟩

theorem mappedAt_get (i : SetId) (e : ScanEdges) (s : State) :
    (mappedAt i e s).edge.get i = { s.edge.get i with edges := some e } := by
  obtain ⟨m, j, h⟩ := mappedAt_edge i e s
  rw [h]
  cases i <;> rfl

theorem mappedAt_get_other (i : SetId) (e : ScanEdges) (s : State) :
    (mappedAt i e s).edge.get i.other = s.edge.get i.other := by
  obtain ⟨m, j, h⟩ := mappedAt_edge i e s
  rw [h]
  cases i <;> rfl

/-- R16 steps 1 and 2, R68. -/
theorem mappedAt_eq (i : SetId) (e : ScanEdges) (s : State) :
    (if (s.edge.get i).slipped then edgesTaken i e s
      else updateMapping e (s.edge.get i).snap (s.edge.get i).scan (edgesTaken i e s)) = mappedAt i e s := by
  have hmap : (edgesTaken i e s).edge.mapping = s.edge.mapping := by cases i <;> rfl
  have hjumps (m : Edges) : (edgeJump i e m s).edge.jumps = s.edge.jumps := by
    rw [edgeJump_edge]
    cases i <;> rfl
  cases h : (s.edge.get i).slipped with
  | true => exact (mappedAt_slipped h).symm
  | false =>
    simp only [Bool.false_eq_true, if_false, updateMapping, hmap]
    cases hm : s.edge.mapping with
    | none => exact (mappedAt_fresh h hm).symm
    | some m =>
      by_cases hf : absDiff e.front m.front ≤ (s.edge.get i).snap.edgeTol ∧
          absDiff e.back m.back ≤ (s.edge.get i).snap.edgeTol
      · rw [mappedAt_within h hm hf.1 hf.2]
        exact if_pos (by simpa [withinTolerance] using hf)
      · refine (if_neg (by simpa [withinTolerance] using hf)).trans ?_
        have hj : raiseAlarm .edgeJump none (s.edge.get i).scan (some (jumpPosition m e))
            (count .edgeJumps 1 (edgesTaken i e s)) = edgeJump i e m s := rfl
        rw [hj, hjumps]
        by_cases ha : (s.edge.get i).snap.edgeAccept ≤ s.edge.jumps + 1
        · rw [mappedAt_accepted h hm hf ha, if_pos ha]
          rfl
        · rw [mappedAt_held h hm hf ha, if_neg ha, State.onEdge, hjumps]

/-- R76, R77: the set of the ended scan as it passes to the finalizer. -/
def handedOver (i : SetId) (e : ScanEdges) (s M : State) : AccSet :=
  { s.edge.get i with
    state := if (s.edge.get i.other).state = .finalizing then .waiting else .finalizing
    edges := some e, mapping := M.edge.mapping }

theorem completeSet_eq (i : SetId) (e : ScanEdges) (s : State) : completeSet i e s =
    { mappedAt i e s with edge :=
      { (mappedAt i e s).edge.set i (handedOver i e s (mappedAt i e s)) with tracker := none } } := by
  have hget := mappedAt_get i e s
  have hother := mappedAt_get_other i e s
  have hc : completeSet i e s = handOver i (mappedAt i e s) := by
    rw [← mappedAt_eq]
    rfl
  rw [hc, handOver, hother]
  simp only [State.onSet, State.onEdge, hget]
  rfl

/-! ### The notices of the mapping edges (R68) -/

/-- The edges and the alarm list that a state has, as those of its base. -/
theorem OnlyNotices.ownEdge {E : EdgeUnit} {A : AlarmList} (h : OnlyNotices ids { s with edge := E, alarms := A } t) :
    OnlyNotices ids { s with edge := t.edge, alarms := t.alarms } t :=
  { h with edge := rfl, alarms := rfl, ports := h.ports, tallies := h.tallies }

/-- R68: the alarm list after a jump. -/
def jumpAlarms (i : SetId) (e : ScanEdges) (m : Edges) (s : State) : AlarmList :=
  (raiseAlarm .edgeJump none (s.edge.get i).scan
    (some (if absDiff e.front m.front < absDiff e.back m.back then e.back else e.front)) s).alarms

theorem onlyNotices_edgeJump (i : SetId) (e : ScanEdges) (m : Edges) (s : State) :
    OnlyNotices [.edgeJumps] { edgesTaken i e s with alarms := jumpAlarms i e m s } (edgeJump i e m s) := by
  rw [jumpAlarms, ← raiseAlarm_alarms_kept (s := s) (t := edgesTaken i e s) _ _ _ _ (PortsKept.refl s) rfl]
  exact ((OnlyNotices.refl [TallyId.edgeJumps] (edgesTaken i e s)).thenCount (id := .edgeJumps) 1
    (by simp)).thenRaiseAlarm .edgeJump none _ _

theorem edgeJump_value (i : SetId) (e : ScanEdges) (m : Edges) (s : State) :
    ((edgeJump i e m s).tallies.get .edgeJumps).value =
      countedValue s.setup.active.tallyMode (s.tallies.get .edgeJumps).value 1 := by
  rw [edgeJump, jumpNoted, ((OnlyNotices.refl [] _).thenRaiseAlarm .edgeJump none _ _).tallies _ (by simp) (by simp)]
  exact (OnlyNotices.refl [] (edgesTaken i e s)).count_value (by simp) (by simp)

/-- R68: what the mapping edges do besides, a jump being counted and alarmed. -/
theorem onlyNotices_mappedAt (i : SetId) (e : ScanEdges) (s : State) : OnlyNotices [.edgeJumps]
    { s with edge := (mappedAt i e s).edge, alarms := (mappedAt i e s).alarms } (mappedAt i e s) := by
  rcases mappedAt_cases i e s with h | h | ⟨m, h | h⟩ <;> rw [h]
  · exact OnlyNotices.refl _ (edgesTaken i e s)
  · exact OnlyNotices.refl _ (edgesAdopted e (edgesTaken i e s))
  · exact ((onlyNotices_edgeJump i e m s).update (g := edgesAdopted e) fun _ _ _ => rfl).ownEdge
  · exact ((onlyNotices_edgeJump i e m s).update
      (g := fun u => { u with edge := { u.edge with jumps := s.edge.jumps + 1 } }) fun _ _ _ => rfl).ownEdge

/-! ### The report, the counts and the application (R16 steps 3 and 4) -/

/-- R76, R77: the set of the ended scan has passed to the finalizer. -/
def setPassed (i : SetId) (e : ScanEdges) (s : State) : State :=
  { mappedAt i e s with edge :=
    { (mappedAt i e s).edge.set i (handedOver i e s (mappedAt i e s)) with tracker := none } }

/-- R9, R37: the counts of a COMPLETE scan end, `s` being the state before it. -/
def countsTaken (s w : State) : State :=
  let since := min (s.trav.sinceStd + 1) 255
  { w with
    trav := { w.trav with
      sinceStd := since
      stdDue := s.trav.stdDue || decide (s.setup.active.stdInterval ≤ since) || decide (s.std.retry = some 1) }
    std := { s.std with retry := if s.std.retry = some 1 then none else s.std.retry.map (· - 1) } }

/-- R16: the scan has ended COMPLETE; the head has not moved on. -/
def completed (i : SetId) (e : ScanEdges) (s : State) : State :=
  scanEndApplied (countsTaken s (reportComplete e.width (scanEndNoted .complete (setPassed i e s))))

/-- R16: the same, without its notices. -/
def completedBare (i : SetId) (e : ScanEdges) (s : State) : State :=
  endApplied (countsTaken s (sheetReported e.width
    { s with edge := (setPassed i e s).edge, alarms := (mappedAt i e s).alarms, trav := { s.trav with cur := none } }))

theorem onlyNotices_setPassed (h : OnlyNotices ids
      { s with edge := (mappedAt i e s).edge, alarms := (mappedAt i e s).alarms } (mappedAt i e s)) :
    OnlyNotices ids { s with edge := (setPassed i e s).edge, alarms := (mappedAt i e s).alarms } (setPassed i e s) :=
  h.update (g := fun u => { u with edge := (setPassed i e s).edge }) fun _ _ _ => rfl

theorem onlyNotices_completed (h : OnlyNotices ids
      { s with edge := (mappedAt i e s).edge, alarms := (mappedAt i e s).alarms } (mappedAt i e s)) :
    OnlyNotices (.scansComplete :: ids) (completedBare i e s) (completed i e s) := by
  have noted := ((onlyNotices_setPassed h).mono (List.subset_cons_self TallyId.scansComplete ids)).thenScanEndNoted
    .complete (by simp [EndCode.tally])
  exact ((noted.thenReportComplete e.width).update (g := countsTaken s) fun _ _ _ => rfl).thenScanEndApplied

theorem countComplete_eq {w : State} (hsince : w.trav.sinceStd = s.trav.sinceStd) (hdue : w.trav.stdDue = s.trav.stdDue)
    (hstd : w.std = s.std) (hset : w.setup = s.setup) : countComplete w = countsTaken s w := by
  simp only [countComplete, countsTaken, State.onTrav, State.onStd, hsince, hdue, hstd, hset, decide_eq_true_eq]

/-- R16: steps 1 to 4 of the scan end, of which no armed line enable is part. -/
theorem endComplete_eq {c : CurScan} (hc : s.trav.cur = some c) (hs : s.trav.state = .scanning) (hl : NoLineEnable s) :
    endComplete i c e s = afterComplete c.dir (completed i e s) := by
  have passed := onlyNotices_setPassed (onlyNotices_mappedAt i e s)
  have noted := (passed.mono (List.subset_cons_self TallyId.scansComplete _)).thenScanEndNoted .complete
    (by simp [EndCode.tally])
  have h := noted.thenReportComplete e.width
  have hcur : (setPassed i e s).trav.cur = some c := (congrArg Traverse.cur passed.trav).trans hc
  have hreport : reportScanEnd .complete e.width (setPassed i e s) =
      reportComplete e.width (scanEndNoted .complete (setPassed i e s)) := by
    simp only [reportScanEnd, scanEndNoted, hcur]
    rfl
  have trav {α : Type} (p : Traverse → α) := congrArg p h.trav
  have hcount := countComplete_eq (s := s) (w := reportComplete e.width (scanEndNoted .complete (setPassed i e s)))
    (trav Traverse.sinceStd) (trav Traverse.stdDue) h.std h.setup
  have hset : (countsTaken s (reportComplete e.width (scanEndNoted .complete (setPassed i e s)))).setup = s.setup :=
    h.setup
  have hc' : completeSet i e s = setPassed i e s := completeSet_eq i e s
  rw [endComplete, hc', hreport, hcount]
  refine congrArg (afterComplete c.dir) (applyScanEnd_eq s _ (trav Traverse.cur) (Option.isSome_of_eq_some hc)
    (trav Traverse.scanNumber).symm (congrArg SetupStore.armed hset).symm ?_ ?_)
  · rw [show (countsTaken s _).trav.state = _ from trav Traverse.state]
    exact fun k => by simp [sheetReported, hs] at k
  · rw [NoLineEnable, hset]
    exact hl

end Sys2Proof.Machine
end

section
namespace Sys2Proof.Machine

variable {s t B : State} {i : SetId} {e : ScanEdges}

/-! ### Where the head goes after a COMPLETE scan end (R16 step 5) -/

/-- What the head's way on from a scan end leaves as it was, the notices apart. -/
structure MovedOn (i : SetId) (B K : State) : Prop where
  set : K.edge.get i = B.edge.get i
  mapping : K.edge.mapping = B.edge.mapping
  jumps : K.edge.jumps = B.edge.jumps
  pos : K.trav.pos = B.trav.pos
  sinceStd : K.trav.sinceStd = B.trav.sinceStd
  stdDue : K.trav.stdDue = B.trav.stdDue
  intent : K.trav.intent = B.trav.intent
  std : K.std = B.std
  mon : K.mon = B.mon
  ring : K.ring = B.ring
  alarms : K.alarms = B.alarms
  setup : K.setup = B.setup
  ports : K.ports = B.ports
  tallies : K.tallies = B.tallies
  freeCount : K.freeCount = B.freeCount
  pending : K.pending = B.pending

theorem movedOn_park (i : SetId) (B : State) : MovedOn i B (stateChanged .parking (issue .park B)) :=
  ⟨rfl, rfl, rfl, rfl, rfl, rfl, rfl, rfl, rfl, rfl, rfl, rfl, rfl, rfl, rfl, rfl⟩

/-- R18: the head waits at the turn point. -/
def turnWaiting (target : MoveTarget) (s : State) : State :=
  stateChanged .turnWait { s with trav := { s.trav with target := some target } }

theorem movedOn_wait (i : SetId) (target : MoveTarget) (B : State) : MovedOn i B (turnWaiting target B) :=
  ⟨rfl, rfl, rfl, rfl, rfl, rfl, rfl, rfl, rfl, rfl, rfl, rfl, rfl, rfl, rfl, rfl⟩

theorem movedOn_scan (i : SetId) (dir : Dir) (h : B.setup.appliedBy (scanStartPicks B) = B.setup) :
    MovedOn i B (scanStarted i.other dir B) :=
  ⟨by cases i <;> rfl, by cases i <;> rfl, by cases i <;> rfl, rfl, rfl, rfl, rfl, rfl, rfl, rfl, rfl, h, rfl, rfl, rfl,
    rfl⟩

/-- R151: what a scan end has applied, the scan start that follows does not find. -/
theorem appliedBy_none (u : SetupStore) (picks : Armed → Bool) (h : ∀ x ∈ u.armed, picks x = false) :
    u.appliedBy picks = u := by
  have hl : u.armed.filter picks = [] := List.filter_eq_nil_iff.2 (by simpa using h)
  have hk : u.armed.filter (fun x => !picks x) = u.armed := List.filter_eq_self.2 (by simpa using h)
  simp [SetupStore.appliedBy, hl, hk]

theorem scanStart_after_scanEnd (u : SetupStore) {B : State} (hc : B.trav.cur = none)
    (hB : B.setup = u.appliedBy (scanEndPicks B.trav.scanNumber)) :
    B.setup.appliedBy (scanStartPicks B) = B.setup := by
  refine appliedBy_none _ _ fun x hx => ?_
  rw [hB, SetupStore.appliedBy_armed, List.mem_filter] at hx
  have hleft := hx.2
  by_cases hcls : x.item.cls = .atScanEnd
  · cases ht : x.target with
    | next => simp [scanEndPicks, hcls, ht] at hleft
    | scan m =>
      have hlate : B.trav.scanNumber < m.toNat := by simpa [scanEndPicks, hcls, ht] using hleft
      simp only [scanStartPicks, hcls, ht, hc, decide_true, Bool.true_and, decide_eq_false_iff_not]
      omega
  · simp [scanStartPicks, hcls]

theorem OnlyNotices.thenScanBegun {ids : List TallyId} (h : OnlyNotices ids B s) (i : SetId) (dir : Dir) :
    OnlyNotices ids (scanStarted i dir B) (scanBegun i dir s) :=
  (h.update (g := scanStarted i dir) fun _ _ _ => by cases dir <;> rfl).trans (onlyNotices_scanBegun ids i dir s)

theorem afterComplete_parks {dir : Dir} (hp : B.permits = true) (hd : dir = .rev ∧ B.trav.stdDue = true) :
    afterComplete dir B = park B := by
  simp [afterComplete, hp, hd.1, hd.2]

theorem afterComplete_moves {dir : Dir} (hp : B.permits = true) (hd : ¬ (dir = .rev ∧ B.trav.stdDue = true)) :
    afterComplete dir B = startScan dir.opposite B := by
  simp only [afterComplete, hp, Bool.not_true, Bool.false_eq_true, if_false]
  exact if_neg fun h => hd ⟨h.2, h.1⟩

/-- R74: with the ended scan's set at the finalizer, the next scan takes the other one. -/
theorem freeSet_other {E : EdgeUnit} (hi : (E.get i).state ≠ .free) (ho : (E.get i.other).state = .free) :
    E.freeSet = some i.other := by
  rw [freeSet_eq_some]
  cases i
  · exact .inr ⟨rfl, hi, ho⟩
  · exact .inl ⟨rfl, ho⟩

theorem freeSet_occupied {E : EdgeUnit} (hi : (E.get i).state ≠ .free) (ho : (E.get i.other).state ≠ .free) :
    E.freeSet = none := by
  rw [freeSet_eq_none]
  cases i
  · exact ⟨hi, ho⟩
  · exact ⟨ho, hi⟩

/-! ### What a COMPLETE scan end leaves (R16) -/

theorem completedBare_get (i : SetId) (e : ScanEdges) (s : State) :
    (completedBare i e s).edge.get i = handedOver i e s (mappedAt i e s) := by
  cases i <;> rfl

theorem completedBare_get_other (i : SetId) (e : ScanEdges) (s : State) :
    (completedBare i e s).edge.get i.other = s.edge.get i.other := by
  rw [← mappedAt_get_other i e s]
  cases i <;> rfl

theorem handedOver_occupied (i : SetId) (e : ScanEdges) (s M : State) : (handedOver i e s M).state ≠ .free := by
  unfold handedOver
  dsimp only
  split <;> simp

theorem completedBare_mapping (i : SetId) (e : ScanEdges) (s : State) :
    (completedBare i e s).edge.mapping = (mappedAt i e s).edge.mapping := by
  cases i <;> rfl

theorem completedBare_jumps (i : SetId) (e : ScanEdges) (s : State) :
    (completedBare i e s).edge.jumps = (mappedAt i e s).edge.jumps := by
  cases i <;> rfl

/-- R16: after the mapping edges only SCANS_COMPLETE is counted. -/
theorem completed_tallies (i : SetId) (e : ScanEdges) (s : State) :
    TalliesKept [.scansComplete] (mappedAt i e s) (completed i e s) := by
  have noted := (OnlyNotices.refl [TallyId.scansComplete] (setPassed i e s)).thenScanEndNoted .complete
    (by simp [EndCode.tally])
  exact (((noted.thenReportComplete e.width).update (g := countsTaken s) fun _ _ _ => rfl).thenScanEndApplied).tallies

theorem completed_scansComplete {c : CurScan} (hc : s.trav.cur = some c) :
    ((completed i e s).tallies.get .scansComplete).value =
      countedValue s.setup.active.tallyMode (s.tallies.get .scansComplete).value 1 := by
  have passed := onlyNotices_setPassed (onlyNotices_mappedAt i e s)
  have noted := OnlyNotices.refl [] (scanEndNoted .complete (setPassed i e s))
  have after := ((noted.thenReportComplete e.width).update (g := countsTaken s) fun _ _ _ => rfl).thenScanEndApplied
  have hcur : (setPassed i e s).trav.cur = some c := (congrArg Traverse.cur passed.trav).trans hc
  rw [completed, after.tallies .scansComplete (by simp) (by simp)]
  refine (scanEndNoted_value .complete hcur).trans ?_
  rw [passed.setup]
  exact congrArg (fun v : Tally => countedValue _ v.value 1) (passed.tallies .scansComplete (by simp) (by simp))

theorem edgesTaken_mapping (i : SetId) (e : ScanEdges) (s : State) :
    (edgesTaken i e s).edge.mapping = s.edge.mapping ∧ (edgesTaken i e s).edge.jumps = s.edge.jumps := by
  cases i <;> exact ⟨rfl, rfl⟩

/-- R68: no jump, no count and no alarm. -/
theorem mappedAt_quiet (h : mappedAt i e s = edgesTaken i e s ∨ mappedAt i e s = edgesAdopted e (edgesTaken i e s)) :
    (mappedAt i e s).alarms = s.alarms ∧ TalliesKept [] s (mappedAt i e s) := by
  rcases h with h | h <;> rw [h] <;> exact ⟨rfl, TalliesKept.refl [] s⟩

end Sys2Proof.Machine

open Sys2Proof Sys2Proof.Machine

/-- Settles O28: steps 1 to 4 as one state that has ended the scan, what the way on leaves of it, and the three ways
on. -/
theorem scanEndsComplete : Obligations.ScanEndsComplete := by
  intro number pos s i k c lead trail hm hs hc hi hk hlead htrail hl hb hn set other edges told since due a arrived
    ended adopted mapped passed noted applied sends
  have happlied : applied = completed i edges arrived := by cases i <;> rfl
  have hother : i.other = other := by cases i <;> rfl
  have stepped : exec (.arrived number pos) s = .next (settle (afterComplete c.dir applied)) := by
    have he : k.scanEdges = some edges := by simp only [Tracker.scanEdges, hlead, htrail, edges]
    have hp : (arrivedAt pos s).trav.state = .scanning := hs
    rw [exec_arrived_taken pos hm (.inr (.inr hs)), arrival, hp]
    dsimp only
    rw [scanEndEvent_of (s := arrivedAt pos s) hi hk hc, he, happlied]
    dsimp only
    rw [endComplete_eq (s := arrivedAt pos s) hc hs hl]
    rfl
  let M := mappedAt i edges arrived
  let B := completedBare i edges arrived
  have hall : OnlyNotices [.scansComplete, .edgeJumps] B applied := by
    rw [happlied]
    exact onlyNotices_completed (onlyNotices_mappedAt i edges arrived)
  have hpermits : applied.permits = true := by
    have h := sheetReported_permits edges.width (permits_of hb)
    rw [State.permits, hall.mon]
    exact h
  have hdue : applied.trav.stdDue = due := congrArg Traverse.stdDue hall.trav
  have hgetI : (applied.edge.get i).state ≠ .free := by
    rw [hall.edge, completedBare_get]
    exact handedOver_occupied _ _ _ _
  have hgetOther : applied.edge.get i.other = s.edge.get other := by
    rw [hall.edge, completedBare_get_other, hother]
  have hfresh : B.setup.appliedBy (scanStartPicks B) = B.setup := scanStart_after_scanEnd s.setup rfl rfl
  have hmax : applied.trav.scanNumber < max32 := by
    rw [hall.trav]
    exact hn
  have parks (h : c.dir = .rev ∧ due = true) : afterComplete c.dir applied = park applied :=
    afterComplete_parks hpermits (by rwa [hdue])
  have begins (h : ¬ (c.dir = .rev ∧ due = true)) (ho : (s.edge.get other).state = .free) :
      afterComplete c.dir applied = scanBegun i.other c.dir.opposite applied := by
    rw [afterComplete_moves hpermits (by rwa [hdue]),
      startScan_begins _ (freeSet_other hgetI (by rw [hgetOther]; exact ho)) hmax]
  have waits (h : ¬ (c.dir = .rev ∧ due = true)) (ho : (s.edge.get other).state ≠ .free) :
      afterComplete c.dir applied =
        changeState .turnWait
          { applied with trav := { applied.trav with target := some c.dir.opposite.startPoint } } := by
    rw [afterComplete_moves hpermits (by rwa [hdue]),
      startScan_waits _ (freeSet_occupied hgetI (by rw [hgetOther]; exact ho))]
  obtain ⟨K, h, moved, hcounts⟩ : ∃ K,
      OnlyNotices [.scansComplete, .edgeJumps] K (settle (afterComplete c.dir applied)) ∧
      MovedOn i B K ∧ TalliesKept [] applied (settle (afterComplete c.dir applied)) := by
    have same := OnlyNotices.refl [] applied
    by_cases h : c.dir = .rev ∧ due = true
    · rw [parks h]
      exact ⟨_, hall.thenPark.thenSettle, movedOn_park i B, same.thenPark.thenSettle.tallies⟩
    by_cases ho : (s.edge.get other).state = .free
    · rw [begins h ho]
      exact ⟨_, (hall.thenScanBegun _ _).thenSettle, movedOn_scan i _ hfresh,
        (same.thenScanBegun _ _).thenSettle.tallies⟩
    · rw [waits h ho]
      have target {ids : List TallyId} {b u : State} (k : OnlyNotices ids b u) := k.update (g := fun w => { w with
        trav := { w.trav with target := some c.dir.opposite.startPoint } }) fun _ _ _ => rfl
      exact ⟨_, ((target hall).thenChangeState .turnWait).thenSettle, movedOn_wait i _ B,
        ((target same).thenChangeState .turnWait).thenSettle.tallies⟩
  refine ⟨_, stepped, ?_⟩
  generalize hgen : settle (afterComplete c.dir applied) = t at h hcounts
  have hget : t.edge.get i = handedOver i edges arrived M :=
    (congrArg (EdgeUnit.get · i) h.edge).trans (moved.set.trans (completedBare_get i edges arrived))
  have hmapping : t.edge.mapping = M.edge.mapping :=
    (congrArg EdgeUnit.mapping h.edge).trans (moved.mapping.trans (completedBare_mapping i edges arrived))
  have hjumps : t.edge.jumps = M.edge.jumps :=
    (congrArg EdgeUnit.jumps h.edge).trans (moved.jumps.trans (completedBare_jumps i edges arrived))
  have htold (A : AlarmList) := onlyNotices_reportComplete [] edges.width { s with alarms := A }
  have halarms : t.alarms = (told M.alarms).alarms := h.alarms.trans (moved.alarms.trans (htold M.alarms).alarms.symm)
  have hmon : t.mon = (told s.alarms).mon := h.mon.trans (moved.mon.trans (htold s.alarms).mon.symm)
  have hsince : TalliesKept [.scansComplete] M t := by
    have k := completed_tallies i edges arrived
    rw [← happlied] at k
    exact k.trans (hcounts.mono (by simp))
  have hkept : TalliesKept [.scansComplete, .edgeJumps] s t := by
    have k := h.tallies
    rwa [TalliesKept, moved.tallies] at k
  have hcomplete : (t.tallies.get .scansComplete).value =
      countedValue s.setup.active.tallyMode (s.tallies.get .scansComplete).value 1 := by
    rw [hcounts .scansComplete (by simp) (by simp), happlied]
    exact completed_scansComplete (s := arrived) hc
  have hports : PortsKept s t := by
    have k := h.ports
    rwa [PortsKept, moved.ports] at k
  have quiet (k : M = edgesTaken i edges arrived ∨ M = edgesAdopted edges (edgesTaken i edges arrived)) :
      t.alarms = (told s.alarms).alarms ∧ TalliesKept [.scansComplete] s t := by
    obtain ⟨ha, hq⟩ := mappedAt_quiet k
    refine ⟨?_, fun id a b => (hsince id a b).trans (hq id (by simp) b)⟩
    rw [halarms, show M.alarms = s.alarms from ha]
  have hstate : (t.edge.get i).state = if (s.edge.get other).state = .finalizing then .waiting else .finalizing := by
    rw [hget, ← hother]
    rfl
  have hown : (t.edge.get i).mapping = t.edge.mapping := by
    rw [hget, hmapping]
    rfl
  refine ⟨⟨hports, h.pending.trans moved.pending, h.freeCount.trans moved.freeCount⟩,
    (congrArg Traverse.pos h.trav).trans moved.pos, hstate, by rw [hget]; rfl, by rw [hget]; rfl, by rw [hget]; rfl,
    hown, fun hs => ?_, fun hs hm => ?_, fun hq => ?_, fun m hs hm => ?_,
    (congrArg Traverse.sinceStd h.trav).trans moved.sinceStd,
    (congrArg Traverse.stdDue h.trav).trans moved.stdDue, hmon, h.ring.trans moved.ring, h.setup.trans moved.setup,
    h.std.trans moved.std, (congrArg Traverse.intent h.trav).trans moved.intent, hkept, hcomplete, fun hd hr => ?_,
    fun hd ho => ?_, fun hd ho => ?_⟩
  · rw [hmapping, hjumps, show M = edgesTaken i edges arrived from mappedAt_slipped hs]
    exact edgesTaken_mapping i edges arrived
  · rw [hmapping, hjumps, show M = _ from mappedAt_fresh (s := arrived) hs hm]
    exact ⟨rfl, rfl⟩
  · refine quiet ?_
    cases hsl : set.slipped with
    | true => exact .inl (mappedAt_slipped hsl)
    | false => exact .inr (mappedAt_fresh (s := arrived) hsl (hq.resolve_left (by simp [hsl])))
  · refine ⟨fun hf hb => ?_, fun hout => ?_⟩
    · have hM : M = edgesAdopted edges (edgesTaken i edges arrived) := mappedAt_within (s := arrived) hs hm hf hb
      obtain ⟨ha, hq⟩ := quiet (.inr hM)
      rw [hmapping, hjumps, hM]
      exact ⟨rfl, rfl, ha, hq⟩
    · have hout' : ¬ (absDiff edges.front m.front ≤ set.snap.edgeTol ∧
          absDiff edges.back m.back ≤ set.snap.edgeTol) := by omega
      have hjump := edgeJump_value i edges m arrived
      have hjumped := onlyNotices_edgeJump i edges m arrived
      have hlist : jumpAlarms i edges m arrived = jumpAlarms i edges m s :=
        raiseAlarm_alarms_kept (s := s) (t := arrived) _ _ _ _ (PortsKept.refl s) rfl
      by_cases hacc : set.snap.edgeAccept ≤ s.edge.jumps + 1
      · have hM : M = edgesAdopted edges (edgeJump i edges m arrived) :=
          mappedAt_accepted (s := arrived) hs hm hout' hacc
        refine ⟨?_, ?_, fun _ => ?_, fun k => absurd hacc (not_le.2 k)⟩
        · rw [hsince .edgeJumps (by simp) (by simp), hM]
          exact hjump
        · rw [halarms, hM, show (edgesAdopted edges (edgeJump i edges m arrived)).alarms = _ from hjumped.alarms]
          exact congrArg (fun A => (told A).alarms) hlist
        · rw [hmapping, hjumps, hM]
          exact ⟨rfl, rfl⟩
      · have hM : M = { edgeJump i edges m arrived with edge :=
            { (edgeJump i edges m arrived).edge with jumps := s.edge.jumps + 1 } } :=
          mappedAt_held (s := arrived) hs hm hout' hacc
        refine ⟨?_, ?_, fun k => absurd k hacc, fun _ => ?_⟩
        · rw [hsince .edgeJumps (by simp) (by simp), hM]
          exact hjump
        · rw [halarms, hM]
          dsimp only
          rw [hjumped.alarms]
          exact congrArg (fun A => (told A).alarms) hlist
        · rw [hmapping, hjumps, hM]
          exact ⟨(congrArg EdgeUnit.mapping (edgeJump_edge i edges m arrived)).trans
            (edgesTaken_mapping i edges arrived).1, rfl⟩
  · have ht : t = settle (park applied) := hgen.symm.trans (congrArg settle (parks ⟨hd, hr⟩))
    have h := hall.thenPark.thenSettle
    rw [← ht] at h
    have trav {α : Type} (p : Traverse → α) := congrArg p h.trav
    have hmove : t.trav.moveTimer = some t.setup.active.moveTimeout := by
      rw [h.setup]
      exact trav Traverse.moveTimer
    exact ⟨ht, ⟨h.link, h.carriageTx, hmove⟩, trav Traverse.target, trav Traverse.state, trav Traverse.cur,
      trav Traverse.scanNumber⟩
  · have ht : t = settle (scanBegun i.other c.dir.opposite applied) := hgen.symm.trans (congrArg settle (begins hd ho))
    have h := (hall.thenScanBegun i.other c.dir.opposite).thenSettle
    rw [← ht] at h
    have trav {α : Type} (p : Traverse → α) := congrArg p h.trav
    have hmove : t.trav.moveTimer = some t.setup.active.moveTimeout := by
      rw [h.setup]
      exact trav Traverse.moveTimer
    have hclaimed := (congrArg (EdgeUnit.get · i.other) h.edge).trans (scanStarted_get i.other c.dir.opposite B)
    rw [hother] at hclaimed ht
    have hdir : c.dir.opposite = if c.dir = .fwd then .rev else .fwd := by cases c.dir <;> rfl
    have htarget : t.trav.target = some c.dir.opposite.farPoint := trav Traverse.target
    have hsent : t.carriageTx = s.carriageTx ++ [⟨s.link.cmdNo + 1, .move (t.targetPos c.dir.opposite.farPoint)⟩] := by
      refine h.carriageTx.trans ?_
      cases c.dir <;> simp only [State.targetPos, Dir.opposite, Dir.farPoint, h.setup] <;> rfl
    have hgoal : t.targetPos c.dir.opposite.farPoint =
        if c.dir = .fwd then t.setup.active.turnF else t.setup.active.turnD := by cases c.dir <;> rfl
    have hpoint : c.dir.opposite.farPoint = if c.dir = .fwd then .turnF else .turnD := by cases c.dir <;> rfl
    have hcur : t.trav.cur = some ⟨s.trav.scanNumber + 1, c.dir.opposite, false⟩ := trav Traverse.cur
    rw [hgoal] at hsent
    rw [hpoint] at htarget
    rw [hdir] at hcur ht
    refine ⟨ht, ⟨h.link, hsent, hmove⟩, htarget, trav Traverse.state, trav Traverse.scanNumber, hcur, ?_⟩
    rw [show t.edge.get other = _ from hclaimed, h.mon, h.setup]
    exact ⟨rfl, rfl, rfl, rfl, rfl⟩
  · have ht := hgen.symm.trans (congrArg settle (waits hd ho))
    have target := hall.update (g := fun w => { w with
        trav := { w.trav with target := some c.dir.opposite.startPoint } }) fun _ _ _ => rfl
    have h := (target.thenChangeState .turnWait).thenSettle
    rw [← ht] at h
    have trav {α : Type} (p : Traverse → α) := congrArg p h.trav
    have hpoint : c.dir.opposite.startPoint = if c.dir = .fwd then .turnD else .turnF := by cases c.dir <;> rfl
    rw [hpoint] at ht
    exact ⟨ht, (trav Traverse.target).trans (congrArg some hpoint), h.link, h.carriageTx, trav Traverse.moveTimer,
      trav Traverse.state, trav Traverse.cur, trav Traverse.scanNumber⟩
end

section
/-! ## Proofs: the result of a standardization (R13, R35, R36, R39) -/

namespace Sys2Proof.Machine

variable {s t b w : State} {ids : List TallyId} {y : StdFlight} {r : StdRecord}

/-! ### The report of a result (R39) -/

theorem accepted_iff (r : StdResult) : r.accepted = true ↔ r = .pass ∨ r = .drift := by
  cases r <;> simp [StdResult.accepted]

/-- R39, R153: STD_DONE is queued, and the group-due mark is acted on. -/
def resultDone (r : StdRecord) (stale : Bool) (fails : Nat) (mark : Bool) (u : State) : State :=
  let v := notify (.stdDone r stale fails) u
  { v with setup := { v.setup with groupMark := false }, trav := { v.trav with stdDue := v.trav.stdDue || mark } }

/-- R153: the group-due mark acted on. -/
def markTaken (mark : Bool) (u : State) : State :=
  { u with setup := { u.setup with groupMark := false }, trav := { u.trav with stdDue := u.trav.stdDue || mark } }

theorem OnlyNotices.thenResultDone (h : OnlyNotices ids b s) (r : StdRecord) (stale : Bool) (fails : Nat)
    (mark : Bool) : OnlyNotices ids (markTaken mark b) (resultDone r stale fails mark s) :=
  (h.thenNotify _).update (g := markTaken mark) fun _ _ _ => rfl

theorem actOnGroupMark_notify (n : Notice) (u : State) :
    actOnGroupMark (notify n u) = markTaken u.setup.groupMark (notify n u) := by
  have hm : (notify n u).setup.groupMark = u.setup.groupMark := by rw [notify_setup]
  rw [← hm]
  exact actOnGroupMark_eq (notify n u)

/-- R35, R36, R122, R9: an accepted result taken, STOP having been sent. -/
def acceptedBy (r : StdRecord) (w : State) : State :=
  { issue .stop w with
    std := { w.std with
      current := some r, previous := w.std.current, stale := false, nextNumber := nextRecordNumber w.std.nextNumber
      retry := none, lastResult := some (r.number, r.result), flight := none }
    trav := { (issue .stop w).trav with stdDue := false, stdAtPark := false, sinceStd := 0, failCount := 0 }
    mon := { w.mon with
      stdInBreak := w.mon.stdInBreak || decide (w.mon.state = .brk ∨ w.mon.state = .threading) } }

/-- R36, R13: a failed result taken, STOP having been sent. -/
def failedBy (r : StdRecord) (w : State) : State :=
  let retries : Bool := w.std.current.isSome && decide (w.trav.failCount < 2)
  { issue .stop w with
    std := { w.std with
      stale := w.std.stale || w.std.current.isSome, nextNumber := nextRecordNumber w.std.nextNumber
      retry := if retries then some 2 else w.std.retry, lastResult := some (r.number, r.result), flight := none }
    trav := { (issue .stop w).trav with
      failCount := w.trav.failCount + 1, stdDue := w.trav.stdDue && !retries
      stdAtPark := w.trav.stdAtPark && !retries } }

theorem resultTaken_accepted (h : (recordOf y w).result.accepted = true) :
    resultTaken y w = acceptedBy (recordOf y w) w := by
  have hdown : (w.mon.stdInBreak || decide (w.mon.state = .brk) || decide (w.mon.state = .threading)) =
      (w.mon.stdInBreak || decide (w.mon.state = .brk ∨ w.mon.state = .threading)) := by
    rw [Bool.or_assoc, Bool.decide_or]
  rw [resultTaken, if_pos h, acceptRecord, acceptedBy, ← hdown]
  rfl

theorem resultTaken_failed (h : (recordOf y w).result.accepted = false) :
    resultTaken y w = failedBy (recordOf y w) w := by
  have hn : decide (w.trav.failCount + 1 < 3) = decide (w.trav.failCount < 2) := by
    rw [decide_eq_decide]
    omega
  simp only [resultTaken, h, Bool.false_eq_true, if_false, failRecord, failedBy, ← hn]
  rfl

theorem concluded_pass (h : (recordOf y w).result = .pass) : concludeStandardization y w =
    resultDone (recordOf y w) false 0 w.setup.groupMark (acceptedBy (recordOf y w) w) := by
  have ha : (recordOf y w).result.accepted = true := by rw [h]; rfl
  have hr : reportResult (recordOf y w) (acceptedBy (recordOf y w) w) =
      notify (.stdDone (recordOf y w) false 0) (acceptedBy (recordOf y w) w) := by
    simp only [reportResult, h]
    rfl
  rw [concludeStandardization_eq, resultTaken_accepted ha, hr, actOnGroupMark_notify]
  rfl

theorem concluded_drift (h : (recordOf y w).result = .drift) : concludeStandardization y w =
    resultDone (recordOf y w) false 0 w.setup.groupMark
      (raiseAlarm .stdDrift none w.trav.scanNumber none (acceptedBy (recordOf y w) w)) := by
  have ha : (recordOf y w).result.accepted = true := by rw [h]; rfl
  have hr : reportResult (recordOf y w) (acceptedBy (recordOf y w) w) = notify (.stdDone (recordOf y w) false 0)
      (raiseAlarm .stdDrift none w.trav.scanNumber none (acceptedBy (recordOf y w) w)) := by
    simp only [reportResult, h, raiseAlarm_std, raiseAlarm_trav]
    rfl
  rw [concludeStandardization_eq, resultTaken_accepted ha, hr, actOnGroupMark_notify, raiseAlarm_setup]
  rfl

theorem concluded_failed (hp : (recordOf y w).result ≠ .pass) (hd : (recordOf y w).result ≠ .drift) :
    concludeStandardization y w =
      resultDone (recordOf y w) (w.std.stale || w.std.current.isSome) (w.trav.failCount + 1) w.setup.groupMark
        (raiseAlarm .stdFail none w.trav.scanNumber none (count .stdFailures 1 (failedBy (recordOf y w) w))) := by
  have ha : (recordOf y w).result.accepted = false := by
    cases h : (recordOf y w).result <;> simp_all [StdResult.accepted]
  have hr : reportResult (recordOf y w) (failedBy (recordOf y w) w) =
      notify (.stdDone (recordOf y w) (w.std.stale || w.std.current.isSome) (w.trav.failCount + 1))
        (raiseAlarm .stdFail none w.trav.scanNumber none (count .stdFailures 1 (failedBy (recordOf y w) w))) := by
    cases h : (recordOf y w).result
    case pass => exact absurd h hp
    case drift => exact absurd h hd
    all_goals
      simp only [reportResult, h, StdResult.accepted, Bool.false_eq_true, if_false, raiseAlarm_std,
        raiseAlarm_trav, count_std, count_trav]
      rfl
  rw [concludeStandardization_eq, resultTaken_failed ha, hr, actOnGroupMark_notify, raiseAlarm_setup, count_setup]
  rfl

/-! ### The effects of a result, without its notices -/

theorem onlyNotices_concluded_pass (h : (recordOf y w).result = .pass) : OnlyNotices []
    (markTaken w.setup.groupMark (acceptedBy (recordOf y w) w)) (concludeStandardization y w) := by
  rw [concluded_pass h]
  exact (OnlyNotices.refl [] _).thenResultDone _ _ _ _

/-- R36: the alarm list after a raise at a result. -/
def resultAlarms (kind : AlarmKind) (w : State) : AlarmList := (raiseAlarm kind none w.trav.scanNumber none w).alarms

theorem onlyNotices_concluded_drift (h : (recordOf y w).result = .drift) : OnlyNotices []
    (markTaken w.setup.groupMark { acceptedBy (recordOf y w) w with alarms := resultAlarms .stdDrift w })
    (concludeStandardization y w) := by
  have hl : resultAlarms .stdDrift w = _ := (raiseAlarm_alarms_kept (s := w) (t := acceptedBy (recordOf y w) w)
    .stdDrift none w.trav.scanNumber none (PortsKept.refl w) rfl).symm
  rw [concluded_drift h, hl]
  exact ((OnlyNotices.refl [] _).thenRaiseAlarm _ _ _ _).thenResultDone _ _ _ _

theorem onlyNotices_concluded_failed (hp : (recordOf y w).result ≠ .pass) (hd : (recordOf y w).result ≠ .drift) :
    OnlyNotices [.stdFailures]
      (markTaken w.setup.groupMark { failedBy (recordOf y w) w with alarms := resultAlarms .stdFail w })
      (concludeStandardization y w) := by
  have hl : resultAlarms .stdFail w = _ := (raiseAlarm_alarms_kept (s := w) (t := failedBy (recordOf y w) w)
    .stdFail none w.trav.scanNumber none (PortsKept.refl w) rfl).symm
  rw [concluded_failed hp hd, hl]
  have counted := (OnlyNotices.refl [TallyId.stdFailures] (failedBy (recordOf y w) w)).thenCount (id := .stdFailures) 1
    (by simp)
  exact (counted.thenRaiseAlarm _ _ _ _).thenResultDone _ _ _ _

theorem concluded_failed_value (hp : (recordOf y w).result ≠ .pass) (hd : (recordOf y w).result ≠ .drift) :
    ((concludeStandardization y w).tallies.get .stdFailures).value =
      countedValue w.setup.active.tallyMode (w.tallies.get .stdFailures).value 1 := by
  have h := ((OnlyNotices.refl [] (count .stdFailures 1 (failedBy (recordOf y w) w))).thenRaiseAlarm .stdFail none
    w.trav.scanNumber none).thenResultDone (recordOf y w) (w.std.stale || w.std.current.isSome) (w.trav.failCount + 1)
    w.setup.groupMark
  rw [concluded_failed hp hd, h.tallies .stdFailures (by simp) (by simp)]
  exact (OnlyNotices.refl [] (failedBy (recordOf y w) w)).count_value (by simp) (by simp)

/-! ### Where the head goes after a result (R12, R13) -/

/-- What the head's next state leaves as it was, the notices apart. -/
structure SentOn (B K : State) : Prop where
  std : K.std = B.std
  edge : K.edge = B.edge
  ring : K.ring = B.ring
  mon : K.mon = B.mon
  alarms : K.alarms = B.alarms
  setup : K.setup = B.setup
  ports : K.ports = B.ports
  tallies : K.tallies = B.tallies
  pending : K.pending = B.pending
  freeCount : K.freeCount = B.freeCount
  intent : K.trav.intent = B.trav.intent
  scanNumber : K.trav.scanNumber = B.trav.scanNumber
  stdDue : K.trav.stdDue = B.trav.stdDue
  stdAtPark : K.trav.stdAtPark = B.trav.stdAtPark
  sinceStd : K.trav.sinceStd = B.trav.sinceStd
  failCount : K.trav.failCount = B.trav.failCount

/-- R12: the head stays where it is. -/
theorem resume_eq (X : State) : resume X =
    if X.trav.intent = .off ∨ X.permits = false then changeState .idle X
    else if X.trav.intent = .scan then sentTo .turnF X.setup.active.turnF X
    else enterPositioning .dwellPos X := by
  by_cases h : X.trav.intent = .off ∨ X.permits = false
  · rw [if_pos h, resume_idle h]
  · rw [if_neg h]
    have hp : X.permits = true := by simpa using fun k => h (.inr k)
    cases hi : X.trav.intent
    case off => exact absurd (.inl hi) h
    case scan => exact (resume_scan hp hi).trans (if_pos rfl).symm
    case dwell => exact (resume_dwell hp hi).trans (if_neg (by simp)).symm

/-- R12: the head on its way after a result, without the notices. -/
def resumed (B : State) : State :=
  let p := clampNat B.setup.active.turnF B.setup.active.turnD B.trav.dwellPos
  if B.trav.intent = .off ∨ B.permits = false then stateChanged .idle B
  else if B.trav.intent = .scan then
    stateChanged .positioning { issue (.move B.setup.active.turnF) B with
      trav := { (issue (.move B.setup.active.turnF) B).trav with target := some .turnF } }
  else
    let clamped : State := { B with trav := { B.trav with dwellPos := p } }
    stateChanged .positioning { issue (.move p) clamped with
      trav := { (issue (.move p) clamped).trav with target := some .dwellPos } }

theorem OnlyNotices.thenResume (h : OnlyNotices ids b s) : OnlyNotices ids (resumed b) (resume s) := by
  have hp : s.permits = b.permits := by rw [State.permits, State.permits, h.mon]
  have hclamp : clampNat s.setup.active.turnF s.setup.active.turnD s.trav.dwellPos =
      clampNat b.setup.active.turnF b.setup.active.turnD b.trav.dwellPos := by rw [h.trav, h.setup]
  rw [resume_eq, h.trav, hp, h.setup]
  unfold resumed
  dsimp only
  split
  · exact h.thenChangeState .idle
  · split
    · exact h.thenSentTo .turnF _
    · rw [enterPositioning_dwell, hclamp]
      exact (h.update (g := fun u => { u with trav := { u.trav with
        dwellPos := clampNat b.setup.active.turnF b.setup.active.turnD b.trav.dwellPos } })
        fun _ _ _ => rfl).thenSentTo .dwellPos _

theorem sentOn_resumed (B : State) : SentOn B (resumed B) := by
  unfold resumed
  dsimp only
  split
  · exact ⟨rfl, rfl, rfl, rfl, rfl, rfl, rfl, rfl, rfl, rfl, rfl, rfl, rfl, rfl, rfl, rfl⟩
  · split <;> exact ⟨rfl, rfl, rfl, rfl, rfl, rfl, rfl, rfl, rfl, rfl, rfl, rfl, rfl, rfl, rfl, rfl⟩

/-! ### A standardization begun again, and the third failure (R13, R28, R154) -/

theorem applyGroup_eq (s : State) :
    applyGroup s = appliedAt .standardize (fun e => s.groupDue && decide (e.item.cls = .atStandardize)) s := by
  unfold applyGroup
  cases h : s.groupDue with
  | true => simp only [if_true, applyArmed_eq, Bool.true_and]
  | false =>
    have hnone : s.setup.armed.filter (fun e => false && decide (e.item.cls = .atStandardize)) = [] := by simp
    simp only [Bool.false_eq_true, if_false, appliedAt, hnone, if_true]

/-- R28, R154: a standardization begins, without its notice. -/
def standardizationStarted (B : State) : State :=
  let group := B.setup.appliedBy fun e => B.groupDue && decide (e.item.cls = .atStandardize)
  issue .dark { B with
    setup := group
    std := { B.std with
      retry := none, flight := some (StdFlight.start group.active.stdSamples group.active.driftLimit) } }

theorem OnlyNotices.thenStartStandardization (h : OnlyNotices ids b s) :
    OnlyNotices ids (standardizationStarted b) (startStandardization s) := by
  refine (h.update (g := standardizationStarted) fun _ _ _ => rfl).trans ?_
  have group := (OnlyNotices.refl ids (s.onStd fun u => { u with retry := none })).thenAppliedAt .standardize
    (fun e => s.groupDue && decide (e.item.cls = .atStandardize))
  have k := group.update (g := fun u => issue .dark (u.onStd fun v => { v with
    flight := some (StdFlight.start u.setup.active.stdSamples u.setup.active.driftLimit) })) fun _ _ _ => rfl
  unfold startStandardization
  rw [applyGroup_eq]
  exact k

/-- R13, R23: the third failure, without its notice. -/
def thirdFailed (B : State) : State :=
  stateChanged .fault { issue .stop B with
    trav := { (issue .stop B).trav with dwell := DwellAcc.empty, stdDue := true } }

theorem enterFault_true (u : State) : enterFault true u =
    changeState .fault { u with trav := { u.trav with dwell := DwellAcc.empty, stdDue := true } } := by
  simp [enterFault, State.onTrav]

theorem OnlyNotices.thenThirdFailed (h : OnlyNotices ids b s) :
    OnlyNotices ids (thirdFailed b) (enterFault true (issue .stop s)) := by
  rw [enterFault_true]
  have stopped := h.update (g := fun u => { issue .stop u with
    trav := { (issue .stop u).trav with dwell := DwellAcc.empty, stdDue := true } }) fun _ _ _ => rfl
  exact stopped.thenChangeState .fault

/-! ### What every result keeps -/

/-- What the choice of the next state after a result leaves of it, the notices apart. -/
structure ResultKept (B K : State) : Prop where
  current : K.std.current = B.std.current
  previous : K.std.previous = B.std.previous
  nextNumber : K.std.nextNumber = B.std.nextNumber
  lastResult : K.std.lastResult = B.std.lastResult
  edge : K.edge = B.edge
  ring : K.ring = B.ring
  mon : K.mon = B.mon
  alarms : K.alarms = B.alarms
  groupMark : K.setup.groupMark = B.setup.groupMark
  ports : K.ports = B.ports
  tallies : K.tallies = B.tallies
  pending : K.pending = B.pending
  freeCount : K.freeCount = B.freeCount
  intent : K.trav.intent = B.trav.intent
  scanNumber : K.trav.scanNumber = B.trav.scanNumber

theorem SentOn.resultKept {B K : State} (h : SentOn B K) : ResultKept B K :=
  { h with
    current := by rw [h.std], previous := by rw [h.std], nextNumber := by rw [h.std], lastResult := by rw [h.std]
    groupMark := by rw [h.setup] }

theorem resultKept_started (B : State) : ResultKept B (standardizationStarted B) :=
  ⟨rfl, rfl, rfl, rfl, rfl, rfl, rfl, rfl, rfl, rfl, rfl, rfl, rfl, rfl, rfl⟩

theorem resultKept_thirdFailed (B : State) : ResultKept B (thirdFailed B) :=
  ⟨rfl, rfl, rfl, rfl, rfl, rfl, rfl, rfl, rfl, rfl, rfl, rfl, rfl, rfl, rfl⟩

/-! ### The last sample of ZERO_C (R30, R32) -/

/-- R30: the sample that completes the phases. -/
theorem stdAdvance_concludes {f : SampleFrame} {x : StdFlight} (hp : x.phase = .zeroC)
    (h : x.samples ≤ x.taken + 1 ∨ x.samples / 4 ≤ x.nCoarse + (if f.flags.getLsbD 5 then 1 else 0)) :
    stdAdvance (x.take f) s = takeResult (concludeStandardization (x.take f) s) := by
  have hl : x.phase.looksAtShutter = false := by rw [hp]; rfl
  have hm : x.phase.meets f = f.flags.getLsbD 5 := by rw [hp, meets_zeroC]
  obtain ⟨hphase, hsamples, htaken, hcoarse⟩ : (x.take f).phase = .zeroC ∧ (x.take f).samples = x.samples ∧
      (x.take f).taken = x.taken + 1 ∧
      (x.take f).nCoarse = x.nCoarse + (if f.flags.getLsbD 5 then 1 else 0) := by
    rw [take_ranged hl, add_zeroC (x := { x with taken := x.taken + 1 }) hp, hm]
    cases f.flags.getLsbD 5 <;> exact ⟨hp, rfl, rfl, rfl⟩
  have hover : (x.take f).phaseOver = true := by
    rw [phaseOver_zeroC hphase, hsamples, htaken, hcoarse]
    simpa using h.symm
  simp only [stdAdvance, hover, if_true, hphase, Phase.after]

end Sys2Proof.Machine
end

section
open Sys2Proof Sys2Proof.Machine

/-- Settles O24: the result as the unit takes it, by its kind, and the head's way on from it. -/
theorem resultsMoveTheFrame : Obligations.ResultsMoveTheFrame := by
  intro f s x hs hx hp hdone hseq hF hD
  have arrives : exec (.sample f) s =
      .next (settle (takeResult (concludeStandardization (x.take f) (placed f s)))) := by
    rw [exec_sample_placed hseq hF hD, deliver_standardizing (s := placed f s) hs (by rwa [placed_std]),
      stdAdvance_concludes hp hdone]
  have hports := (onlyNotices_placed f s).ports
  have htallies : (placed f s).tallies = (gapChecked f s).tallies := rfl
  have hfailures := placed_tally f s (id := .stdFailures) (by simp) (by simp)
  obtain ⟨pos, P, T, hplaced⟩ := placed_eq f s
  rw [hplaced] at arrives hports htallies hfailures ⊢
  intro a r sheetDown next marked stopped done accepted retries stale failed told p stays goes commanded moves
  let w : State := { s with
    link := { s.link with up := true, silence := some s.setup.active.headTimeout, lastSeq := some f.seq }
    trav := { s.trav with pos := pos }, ports := P, tallies := T }
  let X := concludeStandardization (x.take f) w
  have hr : recordOf (x.take f) w = r := rfl
  have hstays (B : State) (hi : B.trav.intent = s.trav.intent) (hm : B.mon.state = s.mon.state) :
      (B.trav.intent = .off ∨ B.permits = false) ↔ stays := by
    have hp : B.permits = false ↔ sheetDown = true := by
      rw [State.permits, hm]
      simp only [sheetDown, decide_eq_true_eq]
      cases s.mon.state <;> simp [BreakState.permits]
    rw [hi, hp]
  have goesOn {ids : List TallyId} {B : State} (h : OnlyNotices ids B X) (hi : B.trav.intent = s.trav.intent)
      (hd : B.trav.dwellPos = s.trav.dwellPos) (hm : B.mon.state = s.mon.state) (hset : B.setup.active = a) :
      resume X = goes X := by
    have hi : X.trav.intent = s.trav.intent := by rw [h.trav, hi]
    have hm : X.mon.state = s.mon.state := by rw [h.mon, hm]
    rw [resume_eq, enterPositioning_dwell, show X.setup.active = a by rw [h.setup, hset],
      show X.trav.dwellPos = s.trav.dwellPos by rw [h.trav, hd]]
    by_cases hst : stays
    · exact (if_pos ((hstays X hi hm).2 hst)).trans (if_pos hst).symm
    · rw [if_neg (fun k => hst ((hstays X hi hm).1 k)), hi]
      exact (if_neg hst).symm
  have htwo : s.link.cmdNo + 1 + 1 = s.link.cmdNo + 2 := by rw [BitVec.add_assoc]; rfl
  have twice {B t : State} (c : HeadCmd) (hl : t.link = (issue c B).link) (ht : t.carriageTx = (issue c B).carriageTx)
      (hlink : B.link = stopped.link) (htx : B.carriageTx = stopped.carriageTx) :
      commanded 2 (if c.isMotion then some (s.link.cmdNo + 2) else s.link.lastMotion) [⟨s.link.cmdNo + 2, c⟩] t := by
    have hup : (issue c B).carriageTx = B.carriageTx ++ [⟨B.link.cmdNo + 1, c⟩] :=
      if_pos (show B.link.up = true by rw [hlink]; rfl)
    refine ⟨?_, ?_⟩
    · rw [hl, ← htwo]
      dsimp only [issue]
      rw [hlink]
      rfl
    · rw [ht, hup, hlink, htx, ← htwo]
      exact List.append_assoc _ _ _
  have hpark : stopped.trav.atPark = s.trav.atPark := Bool.and_true _
  have moved {ids : List TallyId} {B t : State} (h : OnlyNotices ids (resumed B) t) (hlink : B.link = stopped.link)
      (htx : B.carriageTx = stopped.carriageTx) (hset : B.setup.active = a) (hm : B.mon.state = s.mon.state)
      (htrav : B.trav = { stopped.trav with
        stdDue := B.trav.stdDue, stdAtPark := B.trav.stdAtPark, sinceStd := B.trav.sinceStd
        failCount := B.trav.failCount }) : moves t := by
    have trav {α : Type} (p : Traverse → α) := congrArg p htrav
    have hi : B.trav.intent = s.trav.intent := trav Traverse.intent
    have hd : B.trav.dwellPos = s.trav.dwellPos := trav Traverse.dwellPos
    have htimer : B.trav.moveTimer = none := trav Traverse.moveTimer
    have htimeout : some B.setup.active.moveTimeout = some a.moveTimeout := by rw [hset]
    unfold resumed at h
    dsimp only at h
    refine ⟨fun hst => ?_, fun hst => ?_⟩
    · rw [if_pos ((hstays B hi hm).2 hst), stateChanged_moving (by simp)] at h
      have now {α : Type} (p : Traverse → α) := congrArg p h.trav
      exact ⟨now Traverse.state, (now Traverse.moveTimer).trans htimer,
        (now Traverse.target).trans (trav Traverse.target), (now Traverse.dwellPos).trans hd, (now Traverse.atPark).trans ((trav Traverse.atPark).trans hpark),
        h.link.trans hlink, h.carriageTx.trans htx⟩
    · rw [if_neg (fun k => hst ((hstays B hi hm).1 k)), hi, hd, hset] at h
      by_cases hscan : s.trav.intent = .scan
      · rw [if_pos hscan, stateChanged_moving (by simp)] at h
        have now {α : Type} (p : Traverse → α) := congrArg p h.trav
        have htimed : t.trav.moveTimer = some a.moveTimeout := (now Traverse.moveTimer).trans htimeout
        refine ⟨now Traverse.state, htimed, (now Traverse.atPark).trans (Bool.and_false _),
          fun _ => ⟨now Traverse.target, (now Traverse.dwellPos).trans hd, twice (.move a.turnF) h.link h.carriageTx hlink htx⟩, fun k => ?_⟩
        simp [hscan] at k
      · rw [if_neg hscan, stateChanged_moving (by simp)] at h
        have now {α : Type} (p : Traverse → α) := congrArg p h.trav
        have htimed : t.trav.moveTimer = some a.moveTimeout := (now Traverse.moveTimer).trans htimeout
        exact ⟨now Traverse.state, htimed, (now Traverse.atPark).trans (Bool.and_false _), fun k => absurd k hscan,
          fun _ => ⟨now Traverse.target, now Traverse.dwellPos,
            twice (B := { B with trav := { B.trav with dwellPos := p } }) (.move p) h.link h.carriageTx hlink htx⟩⟩
  have hresult := takeResult_concludeStandardization (x.take f) w
  have common {ids : List TallyId} {B K t : State} (h : OnlyNotices ids K t) (k : ResultKept B K)
      (hsend : B.ports = P ∧ B.pending = s.pending ∧ B.freeCount = s.freeCount)
      (hunit : B.std.lastResult = some (r.number, r.result) ∧ B.edge = s.edge ∧ B.ring = s.ring)
      (htrav : B.trav.intent = s.trav.intent ∧ B.trav.scanNumber = s.trav.scanNumber)
      (hmark : B.setup.groupMark = false) :
      SendersKept s t ∧ t.std.lastResult = some (r.number, r.result) ∧ t.trav.intent = s.trav.intent ∧
        t.edge = s.edge ∧ t.ring = s.ring ∧ t.trav.scanNumber = s.trav.scanNumber ∧ t.setup.groupMark = false := by
    obtain ⟨hP, hpending, hfree⟩ := hsend
    obtain ⟨hlast, hedge, hring⟩ := hunit
    obtain ⟨hintent, hscan⟩ := htrav
    have kept : PortsKept w t := by
      have q := h.ports
      rwa [PortsKept, k.ports, hP] at q
    refine ⟨⟨hports.trans kept, (h.pending.trans k.pending).trans hpending,
      (h.freeCount.trans k.freeCount).trans hfree⟩,
      ?_, ?_, (h.edge.trans k.edge).trans hedge, (h.ring.trans k.ring).trans hring, ?_, ?_⟩
    · rw [h.std, k.lastResult, hlast]
    · rw [h.trav, k.intent, hintent]
    · rw [h.trav, k.scanNumber, hscan]
    · rw [h.setup, k.groupMark, hmark]
  have tallied {ids : List TallyId} {B K t : State} (h : OnlyNotices ids K t) (k : ResultKept B K)
      (hB : B.tallies = T) :
      TalliesKept ids (gapChecked f s) t := by
    have q := h.tallies
    rwa [TalliesKept, k.tallies, hB, show T = (gapChecked f s).tallies from htallies] at q
  refine ⟨_, arrives, ?_⟩
  by_cases hacc : r.result.accepted = true
  · have hgoes : takeResult X = resume X := hresult.trans (if_pos hacc)
    have facts (A : AlarmList) (hX : OnlyNotices [] (markTaken marked { accepted with alarms := A }) X) :
        OnlyNotices [] (resumed (markTaken marked { accepted with alarms := A })) (settle (takeResult X)) ∧
          takeResult X = goes X := by
      refine ⟨?_, hgoes.trans (goesOn hX rfl rfl rfl rfl)⟩
      rw [hgoes]
      exact hX.thenResume.thenSettle
    obtain ⟨A, hA, hX⟩ : ∃ A, A = (if r.result = .drift then (raiseAlarm .stdDrift none s.trav.scanNumber none s).alarms
        else s.alarms) ∧ OnlyNotices [] (markTaken marked { accepted with alarms := A }) X := by
      by_cases hd : r.result = .drift
      · exact ⟨resultAlarms .stdDrift w, by
          rw [if_pos hd]
          exact raiseAlarm_alarms_kept (s := s) (t := w) _ _ _ _ hports rfl, onlyNotices_concluded_drift hd⟩
      · have hp : r.result = .pass := ((accepted_iff r.result).1 hacc).resolve_right hd
        exact ⟨s.alarms, (if_neg hd).symm, onlyNotices_concluded_pass hp⟩
    obtain ⟨h, ht⟩ := facts A hX
    have sent := sentOn_resumed (markTaken marked { accepted with alarms := A })
    obtain ⟨c1, c2, c3, c4, c5, c6, c7⟩ := common h sent.resultKept ⟨rfl, rfl, rfl⟩ ⟨rfl, rfl, rfl⟩ ⟨rfl, rfl⟩ rfl
    have hmoves : moves (settle (takeResult X)) := moved h rfl rfl rfl rfl rfl
    have trav {α : Type} (p : Traverse → α) := congrArg p h.trav
    refine ⟨c1, c2, c3, c4, c5, c6, c7, fun hp => ?_, fun hd => ?_, fun _ => ⟨h.std.trans sent.std,
      (trav Traverse.stdDue).trans sent.stdDue, (trav Traverse.stdAtPark).trans sent.stdAtPark,
      (trav Traverse.sinceStd).trans sent.sinceStd, (trav Traverse.failCount).trans sent.failCount,
      h.mon.trans sent.mon, (h.alarms.trans sent.alarms).trans hA, hmoves, tallied h sent.resultKept rfl⟩,
      fun hp hd => ?_⟩
    · rw [ht, show X = _ from concluded_pass hp]
      rfl
    · rw [ht, show X = _ from concluded_drift hd]
      rfl
    · exact absurd ((accepted_iff r.result).1 hacc) (not_or.2 ⟨hp, hd⟩)
  have hpass : r.result ≠ .pass := fun k => hacc (by rw [k]; rfl)
  have hdrift : r.result ≠ .drift := fun k => hacc (by rw [k]; rfl)
  have hX := onlyNotices_concluded_failed (y := x.take f) (w := w) hpass hdrift
  have htold : X = told := concluded_failed hpass hdrift
  have hvalue : (X.tallies.get .stdFailures).value =
      countedValue a.tallyMode (s.tallies.get .stdFailures).value 1 := by
    rw [← hfailures]
    exact concluded_failed_value hpass hdrift
  let B := markTaken marked { failed with alarms := resultAlarms .stdFail w }
  have hafter : takeResult X = if 3 ≤ s.trav.failCount + 1 then enterFault true (issue .stop X)
      else if s.std.current.isNone then startStandardization X else resume X := by
    have hfails : X.trav.failCount = s.trav.failCount + 1 := congrArg Traverse.failCount hX.trav
    have hcurrent : X.std.current = s.std.current := by
      rw [hX.std]
      rfl
    rw [show takeResult X = afterFailure X from hresult.trans (if_neg hacc), afterFailure, hfails, hcurrent]
  obtain ⟨K, h, kept, hcounts⟩ : ∃ K, OnlyNotices [.stdFailures] K (settle (takeResult X)) ∧ ResultKept B K ∧
      TalliesKept [] X (settle (takeResult X)) := by
    have same := OnlyNotices.refl [] X
    rw [hafter]
    split
    · exact ⟨_, hX.thenThirdFailed.thenSettle, resultKept_thirdFailed B, same.thenThirdFailed.thenSettle.tallies⟩
    · split
      · exact ⟨_, hX.thenStartStandardization.thenSettle, resultKept_started B,
          same.thenStartStandardization.thenSettle.tallies⟩
      · refine ⟨_, hX.thenResume.thenSettle, (sentOn_resumed B).resultKept, fun id a b => ?_⟩
        rw [same.thenResume.thenSettle.tallies id a b, (sentOn_resumed X).tallies]
  obtain ⟨c1, c2, c3, c4, c5, c6, c7⟩ := common h kept ⟨rfl, rfl, rfl⟩ ⟨rfl, rfl, rfl⟩ ⟨rfl, rfl⟩ rfl
  have halarms : resultAlarms .stdFail w = (raiseAlarm .stdFail none s.trav.scanNumber none s).alarms :=
    raiseAlarm_alarms_kept (s := s) (t := w) _ _ _ _ hports rfl
  have hcounted : ((settle (takeResult X)).tallies.get .stdFailures).value =
      countedValue a.tallyMode (s.tallies.get .stdFailures).value 1 := by
    rw [hcounts .stdFailures (by simp) (by simp)]
    exact hvalue
  have std {α : Type} (p : StdUnit → α) := congrArg p h.std
  refine ⟨c1, c2, c3, c4, c5, c6, c7, fun k => absurd k hpass, fun k => absurd k hdrift,
    fun k => k.elim (fun k => absurd k hpass) fun k => absurd k hdrift, fun _ _ => ⟨h.mon.trans kept.mon,
      (std StdUnit.current).trans kept.current, (std StdUnit.previous).trans kept.previous,
      (std StdUnit.nextNumber).trans kept.nextNumber, tallied h kept rfl, hcounted,
      (h.alarms.trans kept.alarms).trans halarms, fun hcur hfew => ?_, fun hcur hfew => ?_, fun htwice => ?_⟩⟩
  · have hgoes : takeResult X = resume X := by
      rw [hafter, if_neg (by omega), if_neg (by simpa [Option.isSome_iff_ne_none] using hcur)]
    have h := hX.thenResume.thenSettle
    have sent := sentOn_resumed B
    have hmoves : moves (settle (resume X)) := moved h rfl rfl rfl rfl rfl
    have hretries : retries = true := by simp [retries, hcur, hfew]
    have hstale : (s.std.stale || s.std.current.isSome) = true := by simp [hcur]
    have trav {α : Type} (p : Traverse → α) := congrArg p h.trav
    have std {α : Type} (p : StdUnit → α) := congrArg p (h.std.trans sent.std)
    have hdue : (s.trav.stdDue && !retries || marked) = marked := by simp [hretries]
    have hatPark : (s.trav.stdAtPark && !retries) = false := by simp [hretries]
    have hretry : (if retries then some 2 else s.std.retry) = some 2 := if_pos hretries
    rw [hgoes]
    refine ⟨?_, (std StdUnit.stale).trans hstale, (std StdUnit.retry).trans hretry, std StdUnit.flight,
      ((trav Traverse.stdDue).trans sent.stdDue).trans hdue,
      ((trav Traverse.stdAtPark).trans sent.stdAtPark).trans hatPark,
      (trav Traverse.failCount).trans sent.failCount, hmoves⟩
    rw [goesOn hX rfl rfl rfl rfl, htold]
  · have hstarts : takeResult X = startStandardization X := by
      rw [hafter, if_neg (by omega), if_pos (by simp [hcur])]
    have h := hX.thenStartStandardization.thenSettle
    have trav {α : Type} (p : Traverse → α) := congrArg p h.trav
    have std {α : Type} (p : StdUnit → α) := congrArg p h.std
    have hretries : retries = false := by simp [retries, hcur]
    have hstale : (s.std.stale || s.std.current.isSome) = s.std.stale := by simp [hcur]
    have hdue : (s.trav.stdDue && !retries || marked) = (s.trav.stdDue || marked) := by simp [hretries]
    have hatPark : (s.trav.stdAtPark && !retries) = s.trav.stdAtPark := by simp [hretries]
    have hflight : (settle (startStandardization X)).std.flight = some
        (StdFlight.start (settle (startStandardization X)).setup.active.stdSamples
          (settle (startStandardization X)).setup.active.driftLimit) := by
      rw [h.std, h.setup]
      rfl
    rw [hstarts]
    exact ⟨by rw [htold], (std StdUnit.stale).trans hstale, std StdUnit.retry, trav Traverse.failCount,
      (trav Traverse.stdDue).trans hdue, (trav Traverse.stdAtPark).trans hatPark, (trav Traverse.state).trans hs,
      trav Traverse.moveTimer, trav Traverse.target, hflight, twice (B := B) .dark h.link h.carriageTx rfl rfl⟩
  · have hfaults : takeResult X = enterFault true (issue .stop X) := by
      rw [hafter, if_pos (by omega)]
    have h := hX.thenThirdFailed.thenSettle
    have trav {α : Type} (p : Traverse → α) := congrArg p h.trav
    have std {α : Type} (p : StdUnit → α) := congrArg p h.std
    have hretries : retries = false := by simp [retries, htwice]
    have hretry : (if retries then some 2 else s.std.retry) = s.std.retry := if_neg (by simp [hretries])
    have hfails : s.trav.failCount + 1 = 3 := by omega
    have hpark' : (stopped.trav.atPark && true) = s.trav.atPark := (Bool.and_true _).trans hpark
    have htimer : (thirdFailed B).trav.moveTimer = none := ite_self none
    rw [hfaults]
    exact ⟨by rw [htold, enterFault_true]; rfl, std StdUnit.stale, (std StdUnit.retry).trans hretry, std StdUnit.flight,
      trav Traverse.stdDue, (trav Traverse.atPark).trans hpark', (trav Traverse.failCount).trans hfails,
      trav Traverse.state, (trav Traverse.moveTimer).trans htimer, trav Traverse.target,
      twice (B := B) .stop h.link h.carriageTx rfl rfl⟩
end

section
/-! ## Proofs: the record of a standardization and its checks (R32 to R34) -/

namespace Sys2Proof.Machine

variable {shutterError : Bool} {cd c0 a0 b0 limit : Nat} {drift : Option Nat} {r : StdResult}

/-! ### The checks (R33, R34) -/

/-- R33, R34: what the drift check, the last one, says of a result. -/
inductive DriftGives (drift : Option Nat) (limit : Nat) : StdResult → Prop
  | failDrift (d : Nat) (hd : drift = some d) (above : 4 * limit < d) : DriftGives drift limit .failDrift
  | drift (d : Nat) (hd : drift = some d) (above : limit < d) (within : d ≤ 4 * limit) : DriftGives drift limit .drift
  | pass (within : ∀ d, drift = some d → d ≤ limit) : DriftGives drift limit .pass

/-- R33: a result by the first check that fails: the shutter, the source, the infrared sources, and then the drift. -/
inductive ChecksGive (shutterError : Bool) (cd c0 a0 b0 : Nat) (drift : Option Nat) (limit : Nat) : StdResult → Prop
  | failShutter (shutter : shutterError = true) : ChecksGive shutterError cd c0 a0 b0 drift limit .failShutter
  | failSource (shutter : shutterError = false) (source : (c0 : Int) - cd < 1024) :
      ChecksGive shutterError cd c0 a0 b0 drift limit .failSource
  | failIr (shutter : shutterError = false) (source : 1024 ≤ (c0 : Int) - cd) (ir : a0 = 0 ∨ b0 = 0) :
      ChecksGive shutterError cd c0 a0 b0 drift limit .failIr
  | sound (r : StdResult) (shutter : shutterError = false) (source : 1024 ≤ (c0 : Int) - cd) (abs : 1 ≤ a0)
      (ref : 1 ≤ b0) (last : DriftGives drift limit r) : ChecksGive shutterError cd c0 a0 b0 drift limit r

/-- The model's checks answer the result that the rules name. -/
theorem checksGive_checkResult (shutterError : Bool) (cd c0 a0 b0 : Nat) (drift : Option Nat) (limit : Nat) :
    ChecksGive shutterError cd c0 a0 b0 drift limit (checkResult shutterError cd c0 a0 b0 drift limit) := by
  unfold checkResult
  cases shutterError with
  | true => exact .failShutter rfl
  | false =>
    rw [if_neg Bool.false_ne_true]
    split_ifs with source ir
    · exact .failSource rfl (by omega)
    · exact .failIr rfl (by omega) ir
    · refine .sound _ rfl (by omega) (by omega) (by omega) ?_
      cases drift with
      | none => exact .pass (by simp)
      | some d =>
        dsimp only
        split_ifs with far above
        · exact .failDrift d rfl far
        · exact .drift d rfl above (by omega)
        · exact .pass (by simpa using above)

theorem DriftGives.result (h : DriftGives drift limit r) : r = .failDrift ∨ r = .drift ∨ r = .pass := by
  cases h <;> simp

theorem ChecksGive.failShutter_iff (h : ChecksGive shutterError cd c0 a0 b0 drift limit r) :
    r = .failShutter ↔ shutterError = true := by
  cases h with
  | failShutter shutter => simp [shutter]
  | failSource shutter | failIr shutter => simp [shutter]
  | sound _ shutter _ _ _ last => rcases last.result with rfl | rfl | rfl <;> simp [shutter]

theorem ChecksGive.failSource_iff (h : ChecksGive shutterError cd c0 a0 b0 drift limit r) :
    r = .failSource ↔ shutterError = false ∧ (c0 : Int) - cd < 1024 := by
  cases h with
  | failShutter shutter => simp [shutter]
  | failSource shutter source => simp [shutter, source]
  | failIr shutter source => simp [source]
  | sound _ _ source _ _ last => rcases last.result with rfl | rfl | rfl <;> simp [source]

theorem ChecksGive.failIr_iff (h : ChecksGive shutterError cd c0 a0 b0 drift limit r) :
    r = .failIr ↔ shutterError = false ∧ 1024 ≤ (c0 : Int) - cd ∧ (a0 = 0 ∨ b0 = 0) := by
  cases h with
  | failShutter shutter => simp [shutter]
  | failSource shutter source => simp [source]
  | failIr shutter source ir => simp [shutter, source, ir]
  | sound _ _ _ abs ref last =>
    have sources : ¬ (a0 = 0 ∨ b0 = 0) := by omega
    rcases last.result with rfl | rfl | rfl <;> simp [sources]

theorem ChecksGive.sound_iff (h : ChecksGive shutterError cd c0 a0 b0 drift limit r) :
    (r = .failDrift ∨ r = .drift ∨ r = .pass) ↔
      shutterError = false ∧ 1024 ≤ (c0 : Int) - cd ∧ 1 ≤ a0 ∧ 1 ≤ b0 := by
  cases h with
  | failShutter shutter => simp [shutter]
  | failSource shutter source => simp [source]
  | failIr shutter source ir => simp; omega
  | sound _ shutter source abs ref last => exact iff_of_true last.result ⟨shutter, source, abs, ref⟩

/-- R33: the drift check is made of a result that no check before it has failed. -/
theorem ChecksGive.driftGives (h : ChecksGive shutterError cd c0 a0 b0 drift limit r)
    (hr : r = .failDrift ∨ r = .drift ∨ r = .pass) : DriftGives drift limit r := by
  cases h with
  | sound _ _ _ _ _ last => exact last
  | failShutter | failSource | failIr => simp at hr

theorem DriftGives.of_failDrift (h : DriftGives drift limit .failDrift) : ∃ d, drift = some d ∧ 4 * limit < d := by
  cases h with
  | failDrift d hd above => exact ⟨d, hd, above⟩

theorem DriftGives.of_drift (h : DriftGives drift limit .drift) :
    ∃ d, drift = some d ∧ limit < d ∧ d ≤ 4 * limit := by
  cases h with
  | drift d hd above within => exact ⟨d, hd, above, within⟩

theorem DriftGives.of_pass (h : DriftGives drift limit .pass) : ∀ d, drift = some d → d ≤ limit := by
  cases h with
  | pass within => exact within

/-! ### The record's values (R31 to R33) -/

theorem q0Of_pos (abs : 1 ≤ a0) (ref : 1 ≤ b0) : q0Of a0 b0 = a0 * 65536 / b0 := if_pos ⟨abs, ref⟩

theorem q0Of_of_zero (h : a0 = 0 ∨ b0 = 0) : q0Of a0 b0 = 0 := if_neg (by omega)

theorem zeroOf_counted (sum : Int) {n : Nat} (current : Option Int) (h : 1 ≤ n) :
    zeroOf sum n current = nearestInt sum n := if_neg (by omega)

theorem zeroOf_empty (sum : Int) {n : Nat} (current : Option Int) (h : n = 0) :
    zeroOf sum n current = current.getD 0 := if_pos h

/-- R33: the distance in the drift, with the new average taken first. -/
theorem driftOf_eq (c0 prev : Nat) :
    driftOf c0 prev = (if prev ≤ c0 then c0 - prev else prev - c0) * 10000 / prev := by
  have distance : absDiff c0 prev = if prev ≤ c0 then c0 - prev else prev - c0 := by
    unfold absDiff
    split <;> split <;> omega
  rw [driftOf, distance]

end Sys2Proof.Machine
end

section
open Sys2Proof Sys2Proof.Machine

/-- Settles O23: the record's values as they are made, and its result by the checks. -/
theorem recordsFollowTheChecks : Obligations.RecordsFollowTheChecks := by
  intro x current number scan _ _ r
  have checked : ChecksGive x.shutterError r.cd r.c0 r.a0 r.b0 r.drift x.driftLimit r.result :=
    checksGive_checkResult _ _ _ _ _ _ _
  have hdrift : r.drift = current.map fun p => (if p.c0 ≤ r.c0 then r.c0 - p.c0 else p.c0 - r.c0) * 10000 / p.c0 :=
    congrArg (current.map ·) (funext fun p => driftOf_eq r.c0 p.c0)
  exact ⟨rfl, rfl, rfl, rfl, rfl, rfl, q0Of_pos, q0Of_of_zero, zeroOf_counted _ _, zeroOf_counted _ _,
    zeroOf_empty _ _, zeroOf_empty _ _, hdrift,
    checked.failShutter_iff, checked.failSource_iff, checked.failIr_iff, checked.sound_iff,
    fun h => (h ▸ checked.driftGives (.inl h)).of_failDrift,
    fun h => (h ▸ checked.driftGives (.inr (.inl h))).of_drift,
    fun h => (h ▸ checked.driftGives (.inr (.inr h))).of_pass⟩
end

section
/-! ## Proofs: the beginning of a standardization (R28, R150, R153 to R155) -/

namespace Sys2Proof.Machine

/-! ### The standardization unit and the notices (R168 to R171, R181)

A notice reads the ports, the tallies and the setup alone, so that a change of the unit passes through it. -/

theorem ite_onStd (c : Prop) [Decidable c] (f : StdUnit → StdUnit) {s t s' t' : State} (hs : s' = s.onStd f)
    (ht : t' = t.onStd f) : (if c then s' else t') = (if c then s else t).onStd f := by
  rw [hs, ht]
  exact (apply_ite (fun u : State => u.onStd f) c s t).symm

theorem queueLast_onStd (n : Notice) (p : PortId) (f : StdUnit → StdUnit) (s : State) :
    queueLast n p (s.onStd f) = (queueLast n p s).onStd f := ite_onStd _ f rfl rfl

theorem atSubscribers_onStd (code : Nat) (act : PortId → State → State) (f : StdUnit → StdUnit)
    (h : ∀ p s, act p (s.onStd f) = (act p s).onStd f) (s : State) :
    atSubscribers code act (s.onStd f) = (atSubscribers code act s).onStd f := by
  have passes (p : PortId) (s : State) :
      (if ((s.onStd f).ports.get p).subscribed code then act p (s.onStd f) else s.onStd f) =
        (if (s.ports.get p).subscribed code then act p s else s).onStd f := ite_onStd _ f (h p s) rfl
  simp only [atSubscribers, passes]

theorem countDrop_onStd (f : StdUnit → StdUnit) (s : State) : countDrop (s.onStd f) = (countDrop s).onStd f :=
  ite_onStd _ f (atSubscribers_onStd 8 _ f (fun p => queueLast_onStd _ p f) (bump .noticesDropped 1 s)) rfl

theorem queueAt_onStd (n : Notice) (p : PortId) (f : StdUnit → StdUnit) (s : State) :
    queueAt n p (s.onStd f) = (queueAt n p s).onStd f :=
  ite_onStd _ f (countDrop_onStd f (s.onPort p (fun q => q.queue n))) rfl

theorem notify_onStd (n : Notice) (f : StdUnit → StdUnit) (s : State) :
    notify n (s.onStd f) = (notify n s).onStd f :=
  atSubscribers_onStd n.code _ f (fun p => queueAt_onStd n p f) s

theorem appliedAt_onStd (point : ApplyPoint) (picks : Armed → Bool) (f : StdUnit → StdUnit) (s : State) :
    appliedAt point picks (s.onStd f) = (appliedAt point picks s).onStd f :=
  ite_onStd _ f rfl (notify_onStd _ f { s with setup := s.setup.appliedBy picks })

theorem appliedAt_std (point : ApplyPoint) (picks : Armed → Bool) (s : State) :
    (appliedAt point picks s).std = s.std := (onlyNotices_appliedAt [] point picks s).std

/-! ### The due group (R150, R153, R154) -/

/-- R154: an armed entry of the AT_STANDARDIZE group. -/
def groupPicks (e : Armed) : Bool := decide (e.item.cls = .atStandardize)

theorem reached_scan_iff (s : State) (n : BitVec 32) :
    s.reached (.scan n) = true ↔
      n.toNat < s.trav.scanNumber ∨ (n.toNat = s.trav.scanNumber ∧ s.trav.cur = none) := by
  simp [State.reached, State.scanEnded]

theorem groupDue_iff (s : State) :
    s.groupDue = true ↔
      s.setup.armed.filter groupPicks ≠ [] ∧ ∀ e ∈ s.setup.armed.filter groupPicks, s.reached e.target = true := by
  change (!(s.setup.armed.filter groupPicks).isEmpty &&
    (s.setup.armed.filter groupPicks).all fun e => s.reached e.target) = true ↔ _
  rw [Bool.and_eq_true, List.all_eq_true, Bool.not_eq_true', List.isEmpty_eq_false_iff]

theorem applyGroup_of_not_due {s : State} (h : ¬ s.groupDue = true) : applyGroup s = s := if_neg h

theorem applyGroup_of_due {s : State} (h : s.groupDue = true) :
    applyGroup s = appliedAt .standardize groupPicks s :=
  (if_pos h).trans (applyArmed_eq _ _ _)

/-- R155: the store after the group has been applied, whose items all move the generation when their value changes. -/
theorem appliedBy_groupPicks (u : SetupStore) :
    u.appliedBy groupPicks = { u with
      active := (u.armed.filter groupPicks).foldl (fun a e => a.put e.item e.value) u.active
      generation := if ∃ e ∈ u.armed.filter groupPicks, u.active.get e.item ≠ e.value then
          (if u.generation = 65535 then 1 else u.generation + 1) else u.generation
      armed := u.armed.filter fun e => decide (e.item.cls ≠ .atStandardize) } := by
  have moves : ((u.armed.filter groupPicks).any fun e =>
      decide (e.item.cls ≠ .immediate) && decide (u.active.get e.item ≠ e.value)) = true ↔
      ∃ e ∈ u.armed.filter groupPicks, u.active.get e.item ≠ e.value := by
    rw [List.any_eq_true]
    refine exists_congr fun e => and_congr_right fun he => ?_
    have cls : e.item.cls = .atStandardize := of_decide_eq_true (List.mem_filter.1 he).2
    simp [cls]
  have left : (u.armed.filter fun e => !groupPicks e) =
      u.armed.filter fun e => decide (e.item.cls ≠ .atStandardize) :=
    List.filter_congr fun e _ => (decide_not (p := e.item.cls = .atStandardize)).symm
  unfold SetupStore.appliedBy
  simp only [moves, left]

/-! ### The start (R28) -/

/-- R28: what a start does to the unit and sends, `u` being the state after the application of the group. -/
theorem startStandardization_of_applied {s u : State} {a : Setup} (applied : applyGroup s = u)
    (active : u.setup.active = a) :
    startStandardization s = issue .dark { u with
      std := { s.std with retry := none, flight := some (StdFlight.start a.stdSamples a.driftLimit) } } := by
  subst applied active
  have passes : applyGroup (s.onStd fun u => { u with retry := none }) =
      (applyGroup s).onStd fun u => { u with retry := none } := by
    rw [applyGroup_eq, applyGroup_eq]
    exact appliedAt_onStd _ _ _ _
  have hstd : (applyGroup s).std = s.std := by rw [applyGroup_eq, appliedAt_std]
  unfold startStandardization
  rw [passes, ← hstd]
  rfl

end Sys2Proof.Machine
end

section
open Sys2Proof Sys2Proof.Machine

/-- Settles O26: the start, after a group that is not due and after one that is. -/
theorem standardizationStartsWithDark : Obligations.StandardizationStartsWithDark := by
  intro s group due flight began
  have hdue : due ↔ s.groupDue = true := by
    rw [groupDue_iff]
    refine and_congr_right fun _ => forall₂_congr fun e _ => ?_
    cases e.target with
    | next => exact iff_of_true trivial rfl
    | scan n => exact (reached_scan_iff s n).symm
  refine ⟨fun h => ?_, fun h => ?_⟩
  · have kept : applyGroup s = s := applyGroup_of_not_due (mt hdue.2 h)
    exact startStandardization_of_applied kept rfl
  · intro a g
    have nonempty : s.setup.armed.filter groupPicks ≠ [] := h.1
    have applied : applyGroup s = notify (.setupApplied g group.length .standardize s.trav.scanNumber)
        { s with setup := { s.setup with
            active := a, generation := g
            armed := s.setup.armed.filter (fun e => decide (e.item.cls ≠ .atStandardize)) } } := by
      rw [applyGroup_of_due (hdue.1 h), appliedAt, if_neg nonempty, appliedBy_groupPicks]
      rfl
    exact startStandardization_of_applied applied (congrArg SetupStore.active (notify_setup _ _))
end

section
/-! ## Proofs: how an offered value is checked (R43, R138) -/

namespace Sys2Proof.Machine

/-- R137: the bounds of a scalar item do not cross. -/
theorem shape_scalar_ordered {i : Item} {lo hi : Nat} (h : i.shape = .scalar lo hi) : lo ≤ hi := by
  cases i <;> cases h <;> decide

theorem checkValue_scalar {i : Item} {lo hi : Nat} (h : i.shape = .scalar lo hi) (v : BitVec 32) :
    checkValue i (.scalar v) =
      .staged (.scalar (max lo (min hi v.toNat))) (!decide (lo ≤ v.toNat ∧ v.toNat ≤ hi)) := by
  have ordered : lo ≤ hi := shape_scalar_ordered h
  unfold checkValue
  rw [h]
  dsimp only
  split_ifs with below above
  · have value : max lo (min hi v.toNat) = lo := by omega
    rw [value, decide_eq_false (by omega), Bool.not_false]
  · have value : max lo (min hi v.toNat) = hi := by omega
    rw [value, decide_eq_false (by omega), Bool.not_false]
  · have value : max lo (min hi v.toNat) = v.toNat := by omega
    rw [value, decide_eq_true (by omega), Bool.not_true]

theorem checkValue_code {i : Item} {codes : Nat} (h : i.shape = .enumerated codes) (c : BitVec 8) :
    checkValue i (.code c) = if c.toNat < codes then .staged (.code c.toNat) false else .badValue := by
  unfold checkValue
  rw [h]

theorem checkValue_curve {i : Item} {count top : Nat} {rising : Bool} (h : i.shape = .curve count top rising)
    (points : List (BitVec 16)) :
    checkValue i (.curve points) =
      if points.length ≠ count then .malformed
      else if curveShape top rising (points.map BitVec.toNat) then .staged (.curve (points.map BitVec.toNat)) false
      else .badValue := by
  unfold checkValue
  rw [h]

theorem steps_cons_cons (rising : Bool) (a b : Nat) (l : List Nat) :
    steps rising (a :: b :: l) = ((if rising then decide (a ≤ b) else decide (b ≤ a)) && steps rising (b :: l)) := rfl

/-- R43: the steps speak of neighbours, the order of all pairs. -/
theorem steps_iff_pairwise (rising : Bool) (l : List Nat) :
    steps rising l = true ↔ l.Pairwise (if rising then (· ≤ ·) else (· ≥ ·)) := by
  have chain : steps rising l = true ↔ l.IsChain (if rising then (· ≤ ·) else (· ≥ ·)) := by
    induction l with
    | nil => exact iff_of_true rfl .nil
    | cons a l ih =>
      cases l with
      | nil => exact iff_of_true rfl (.singleton a)
      | cons b l =>
        rw [steps_cons_cons, Bool.and_eq_true, ih, List.isChain_cons_cons]
        cases rising <;> simp
  rw [chain]
  cases rising with
  | false => exact List.isChain_iff_pairwise (R := (· ≥ ·))
  | true => exact List.isChain_iff_pairwise (R := (· ≤ ·))

/-- R43: a curve's shape. -/
theorem curveShape_iff (top : Nat) (rising : Bool) (points : List Nat) :
    curveShape top rising points = true ↔
      (∀ n ∈ points, n ≤ top) ∧ points.Pairwise (if rising then (· ≤ ·) else (· ≥ ·)) ∧
        (rising = true → points.head? = some 0 ∧ points.getLast? = some top) := by
  rw [← steps_iff_pairwise]
  cases rising <;> simp [curveShape, and_assoc]

end Sys2Proof.Machine
end

section
open Sys2Proof Sys2Proof.Machine

/-- Settles O46: by the shape of the item. -/
theorem offeredValuesAreCheckedByKind : Obligations.OfferedValuesAreCheckedByKind := by
  intro i
  refine ⟨fun lo hi h => checkValue_scalar h, fun codes h => checkValue_code h, ?_⟩
  intro count top rising h points ns
  rw [checkValue_curve h]
  refine ⟨fun short => if_pos short, fun whole => ⟨fun shaped => ?_, fun unshaped => ?_⟩⟩
  · rw [if_neg (not_not.2 whole), if_pos ((curveShape_iff top rising ns).2 shaped)]
  · rw [if_neg (not_not.2 whole), if_neg (mt (curveShape_iff top rising ns).1 unshaped)]
end

section
/-! ## Proofs: the parts of a converted sample (R46 to R56) -/

namespace Sys2Proof.Machine

/-! ### Transmission and water (R49, R51 to R53) -/

theorem transmission_le (r : StdRecord) (count : Nat) : transmission r count ≤ 65536 := by
  have part : min (count - r.cd) (r.c0 - r.cd) * 65536 ≤ 65536 * (r.c0 - r.cd) := by omega
  exact Nat.div_le_of_le_mul (part.trans_eq (Nat.mul_comm _ _))

theorem normalizedRatio_le (r : StdRecord) (abs ref : Nat) : normalizedRatio r abs ref ≤ 65536 := min_le_right _ _

/-- R49: the transmission ratio of a count that may lie below the dark count, by its clamped distance from it. -/
theorem transmission_eq {r : StdRecord} (span : r.cd < r.c0) (count : Nat) :
    transmission r count =
      (max 0 (min ((count : Int) - r.cd) ((r.c0 : Int) - r.cd)) * 65536 / ((r.c0 : Int) - r.cd)).toNat := by
  have above : max 0 (min ((count : Int) - r.cd) ((r.c0 : Int) - r.cd)) =
      (min (count - r.cd) (r.c0 - r.cd) : Nat) := by omega
  have whole : (r.c0 : Int) - r.cd = (r.c0 - r.cd : Nat) := by omega
  rw [above, whole]
  exact (Int.toNat_natCast _).symm

theorem waterPart_valid {r : StdRecord} {curve : Option (List Nat)} {water : List Nat} {abs ref bw : Nat}
    (loaded : curve = some water) (hr : 1 ≤ ref) (hq : 1 ≤ r.q0) :
    waterPart r curve abs ref bw = some (waterParts r water abs ref bw) := by
  subst loaded
  exact if_pos ⟨hr, hq⟩

theorem waterPart_absent {r : StdRecord} {curve : Option (List Nat)} {abs ref bw : Nat}
    (h : curve = none ∨ ref = 0 ∨ r.q0 = 0) : waterPart r curve abs ref bw = none := by
  cases curve with
  | none => rfl
  | some water =>
    have zero : ref = 0 ∨ r.q0 = 0 := h.resolve_left (Option.some_ne_none _)
    exact if_neg (by omega)

/-! ### Caliper (R54 to R56) -/

/-- Truncation toward zero, with the quotients taken of numbers that are not negative. -/
theorem truncate_eq (a : Int) (b : Nat) : truncate a b = if 0 ≤ a then a / b else -(-a / b) := by
  unfold truncate
  split_ifs with sign
  · rw [Int.natCast_ediv, Int.natAbs_of_nonneg sign]
  · rw [Int.natCast_ediv, Int.ofNat_natAbs_of_nonpos (by omega)]

/-- R54, R55: the FINE-scale reading by the range flag. -/
theorem fineReading_calRange (r : StdRecord) (ratio : Nat) (f : SampleFrame) (raw : Int) :
    fineReading r ratio (calRange f) raw =
      if f.flags.getLsbD 5 then
        (if 0 ≤ (raw - r.zc) * ratio then (raw - r.zc) * ratio / 256 else -(-((raw - r.zc) * ratio) / 256))
      else raw - r.zf := by
  unfold calRange
  split_ifs with coarse sign
  · exact (truncate_eq _ 256).trans (if_pos sign)
  · exact (truncate_eq _ 256).trans (if_neg sign)
  · rfl

theorem convert_accepted {a : Setup} {f : SampleFrame} {curve : List Nat} (loaded : a.bwCurve = some curve)
    (source : sourceOk f = true) (shutter : shutterOpen f = true) (r : StdRecord) (pos : Nat) :
    convert (some r) a f pos = some
      { pos := pos, t := transmission r (countField f.bwCount),
        bw := lookup curve (transmission r (countField f.bwCount)),
        water := waterPart r a.waterCurve (countField f.irAbs) (countField f.irRef)
          (lookup curve (transmission r (countField f.bwCount))),
        cal := caliperPart r a f } := by
  unfold convert
  rw [loaded, source, shutter]
  rfl

end Sys2Proof.Machine
end

section
open Sys2Proof Sys2Proof.Machine

/-- Settles O16: the converted sample, part by part. -/
theorem conversionFollowsTheFormulas : Obligations.ConversionFollowsTheFormulas := by
  intro r curve a f pos loaded source shutter span n t bw abs ref w scaled v
  have ratio : transmission r (countField f.bwCount) = t := transmission_eq span _
  have reading : fineReading r a.calRatio (calRange f) (calRaw f) = v := fineReading_calRange r a.calRatio f _
  refine ⟨_, convert_accepted loaded source shutter r pos, rfl, ratio, ratio ▸ transmission_le r _,
    congrArg (lookup curve) ratio, fun water hwater hr hq => ⟨?_, ?_⟩, waterPart_absent, fun contact => ?_,
    fun lifted => ?_⟩
  · rw [ratio]
    exact waterPart_valid hwater hr hq
  · exact Nat.add_sub_of_le (min_le_right _ _)
  · rw [caliperPart, if_pos contact, reading]
    rfl
  · rw [caliperPart, lifted, if_neg Bool.false_ne_true]
end

section
/-! ## Proofs: the curve lookup (R44, R45)

The formula of a segment also gives the point that ends it, so that a lookup can be followed from one input to the next
without asking whether a point lies between them. -/

namespace Sys2Proof.Machine

variable {points : List Nat} {i f x y : Nat}

/-! ### The step from a point toward the next (R44) -/

/-- The nearest value to a part of a difference is no more than the difference. -/
theorem nearestNat_part_le (d : Nat) (hf : f ≤ 2048) : nearestNat (d * f) 2048 ≤ d := by
  have part : d * f ≤ d * 2048 := Nat.mul_le_mul_left d hf
  unfold nearestNat
  omega

theorem nearestNat_mono {a c : Nat} (h : a ≤ c) (b : Nat) : nearestNat a b ≤ nearestNat c b :=
  Nat.div_le_div_right (by omega)

theorem nearestNat_mul_cancel (d : Nat) : nearestNat (d * 2048) 2048 = d := by
  unfold nearestNat
  omega

/-- R44: at the top of the domain and beyond it, the last point. -/
theorem lookup_of_top (h : points.length ≤ x / 2048 + 1) : lookup points x = points.getD (points.length - 1) 0 :=
  if_pos (by omega)

/-- R44: inside a segment, the point before the input and a rounded part of the difference to the next. -/
theorem lookup_of_segment (h : i + 1 < points.length) (hf : f < 2048) :
    lookup points (2048 * i + f) =
      ((points.getD i 0 : Int) + nearestInt (((points.getD (i + 1) 0 : Int) - points.getD i 0) * f) 2048).toNat := by
  have segment : (2048 * i + f) / 2048 = i := by omega
  have offset : 2048 * i + f - 2048 * i = f := by omega
  unfold lookup
  dsimp only
  rw [segment, offset, if_neg (by omega)]

theorem nearestInt_natCast (a b : Nat) : nearestInt a b = nearestNat a b := if_pos (Int.natCast_nonneg a)

theorem nearestInt_neg_natCast (a : Nat) : nearestInt (-a) 2048 = -(nearestNat a 2048 : Int) := by
  unfold nearestInt
  split_ifs with sign
  · have zero : a = 0 := by omega
    subst zero
    rfl
  · rw [Int.natAbs_neg, Int.natAbs_natCast]

/-- R44: at a point's own input, the point. -/
theorem lookup_at_point (h : i < points.length) : lookup points (2048 * i) = points.getD i 0 := by
  by_cases last : i + 1 < points.length
  · have start := lookup_of_segment last (f := 0) (by decide)
    rw [Nat.add_zero, Int.natCast_zero, Int.mul_zero] at start
    rw [start]
    exact Int.toNat_natCast _
  · rw [lookup_of_top (by omega)]
    congr 1
    omega

/-- R44: the lookup in a segment that does not fall, up to the point that ends it. -/
theorem lookup_rising (h : i + 1 < points.length) (hf : f ≤ 2048) (hle : points.getD i 0 ≤ points.getD (i + 1) 0) :
    lookup points (2048 * i + f) =
      points.getD i 0 + nearestNat ((points.getD (i + 1) 0 - points.getD i 0) * f) 2048 := by
  rcases hf.lt_or_eq with inside | rfl
  · rw [lookup_of_segment h inside, ← Int.natCast_sub hle, ← Int.natCast_mul, nearestInt_natCast]
    exact Int.toNat_natCast _
  · rw [← Nat.mul_succ, lookup_at_point h, nearestNat_mul_cancel]
    omega

/-- R44: the lookup in a segment that does not rise, up to the point that ends it. -/
theorem lookup_falling (h : i + 1 < points.length) (hf : f ≤ 2048) (hle : points.getD (i + 1) 0 ≤ points.getD i 0) :
    lookup points (2048 * i + f) + nearestNat ((points.getD i 0 - points.getD (i + 1) 0) * f) 2048 =
      points.getD i 0 := by
  rcases hf.lt_or_eq with inside | rfl
  · have part := nearestNat_part_le (points.getD i 0 - points.getD (i + 1) 0) hf
    have fall : ((points.getD (i + 1) 0 : Int) - points.getD i 0) * f =
        -(((points.getD i 0 - points.getD (i + 1) 0) * f : Nat) : Int) := by
      rw [Int.natCast_mul, Int.natCast_sub hle, ← Int.neg_mul, Int.neg_sub]
    rw [lookup_of_segment h inside, fall, nearestInt_neg_natCast]
    omega
  · rw [← Nat.mul_succ, lookup_at_point h, nearestNat_mul_cancel]
    omega

/-- R45: the lookup lies between the two points around its input. -/
theorem lookup_between (h : x / 2048 + 1 < points.length) :
    min (points.getD (x / 2048) 0) (points.getD (x / 2048 + 1) 0) ≤ lookup points x ∧
      lookup points x ≤ max (points.getD (x / 2048) 0) (points.getD (x / 2048 + 1) 0) := by
  have hf : x % 2048 ≤ 2048 := (Nat.mod_lt x (by decide)).le
  have located : lookup points x = lookup points (2048 * (x / 2048) + x % 2048) := by rw [Nat.div_add_mod]
  rw [located]
  rcases le_total (points.getD (x / 2048) 0) (points.getD (x / 2048 + 1) 0) with rises | falls
  · have part := nearestNat_part_le (points.getD (x / 2048 + 1) 0 - points.getD (x / 2048) 0) hf
    have rising := lookup_rising h hf rises
    omega
  · have falling := lookup_falling h hf falls
    have part := nearestNat_part_le (points.getD (x / 2048) 0 - points.getD (x / 2048 + 1) 0) hf
    omega

/-! ### The direction of a curve (R45) -/

theorem pairwise_getD_succ {R : Nat → Nat → Prop} (h : points.Pairwise R) (hi : i + 1 < points.length) :
    R (points.getD i 0) (points.getD (i + 1) 0) := by
  rw [List.getD_eq_getElem _ _ hi, List.getD_eq_getElem _ _ (Nat.lt_of_succ_lt hi)]
  exact List.pairwise_iff_getElem.1 h i (i + 1) _ hi (Nat.lt_succ_self i)

/-- A relation that holds along each segment holds from an input to every later one, the lookup being constant from the
top of the domain on. -/
theorem lookup_related {R : Nat → Nat → Prop} (hrefl : ∀ v, R v v) (htrans : ∀ {u v w}, R u v → R v w → R u w)
    (segment : ∀ i f, i + 1 < points.length → f < 2048 →
      R (lookup points (2048 * i + f)) (lookup points (2048 * i + (f + 1))))
    (hxy : x ≤ y) : R (lookup points x) (lookup points y) := by
  have next (x : Nat) : R (lookup points x) (lookup points (x + 1)) := by
    by_cases top : points.length ≤ x / 2048 + 1
    · rw [lookup_of_top top, lookup_of_top (by omega)]
      exact hrefl _
    · have step := segment (x / 2048) (x % 2048) (by omega) (Nat.mod_lt x (by decide))
      rwa [← Nat.add_assoc, Nat.div_add_mod] at step
  induction y, hxy using Nat.le_induction with
  | base => exact hrefl _
  | succ y _ ih => exact htrans ih (next y)

theorem lookup_mono (h : points.Pairwise (· ≤ ·)) (hxy : x ≤ y) :
    lookup points x ≤ lookup points y := by
  refine lookup_related (R := (· ≤ ·)) Nat.le_refl Nat.le_trans (fun i f hi hf => ?_) hxy
  have rises : points.getD i 0 ≤ points.getD (i + 1) 0 := pairwise_getD_succ h hi
  have part := nearestNat_mono
    (Nat.mul_le_mul_left (points.getD (i + 1) 0 - points.getD i 0) (Nat.le_add_right f 1)) 2048
  rw [lookup_rising hi hf.le rises, lookup_rising hi hf rises]
  exact Nat.add_le_add_left part _

theorem lookup_anti (h : points.Pairwise (· ≥ ·)) (hxy : x ≤ y) :
    lookup points y ≤ lookup points x := by
  refine lookup_related (R := (· ≥ ·)) Nat.le_refl (fun hu hv => Nat.le_trans hv hu) (fun i f hi hf => ?_) hxy
  have falls : points.getD (i + 1) 0 ≤ points.getD i 0 := pairwise_getD_succ (R := (· ≥ ·)) h hi
  have part := nearestNat_mono
    (Nat.mul_le_mul_left (points.getD i 0 - points.getD (i + 1) 0) (Nat.le_add_right f 1)) 2048
  have before := lookup_falling hi hf.le falls
  have after := lookup_falling (f := f + 1) hi hf falls
  change lookup points (2048 * i + (f + 1)) ≤ lookup points (2048 * i + f)
  omega

/-- R102, R104: the input that a zone boundary forms is in the domain of the shrink curve. -/
theorem zoneInput_le {k z : Nat} (h : k ≤ z) : k * 32768 / z ≤ 32768 :=
  Nat.div_le_of_le_mul (Nat.mul_le_mul_right 32768 h)

end Sys2Proof.Machine
end

section
open Sys2Proof Sys2Proof.Machine

/-- Settles O17: the formula of a segment, the domain, the bounds, the points and the direction. -/
theorem lookupsStayBetweenThePoints : Obligations.LookupsStayBetweenThePoints := by
  refine ⟨fun points i f hi hf => ⟨lookup_rising hi hf.le, lookup_falling hi hf.le⟩, fun points last hlen => ?_,
    fun r count abs ref => ⟨transmission_le r count, normalizedRatio_le r abs ref⟩, fun k z => zoneInput_le,
    fun points => ⟨fun x => lookup_between, fun i => lookup_at_point,
      fun x y hxy _ => ⟨fun h => lookup_mono h hxy, fun h => lookup_anti h hxy⟩⟩⟩
  exact lookup_at_point (by omega)
end

section
/-! ## Proofs: the zones of a profile (R102 to R107) -/

namespace Sys2Proof.Machine

variable {curve bounds : List Nat} {m : Edges} {z k l c : Nat}

/-! ### The boundaries (R102)

A loaded shrink curve rises from 0 to 32768 over its 17 points. -/

theorem lookup_shrink_start (start : curve.head? = some 0) : lookup curve 0 = 0 := by
  have nonempty : 0 < curve.length := by
    cases curve with
    | nil => cases start
    | cons => exact Nat.succ_pos _
  have point := lookup_at_point nonempty
  rwa [Nat.mul_zero, List.getD_eq_getElem?_getD, ← List.head?_eq_getElem?, start] at point

theorem lookup_shrink_end (points : curve.length = 17) (final : curve.getLast? = some 32768) :
    lookup curve 32768 = 32768 := by
  have point : lookup curve (2048 * 16) = curve.getD 16 0 := lookup_at_point (by omega)
  have last : curve[16]? = some 32768 := by rw [← final, List.getLast?_eq_getElem?, points]
  rwa [List.getD_eq_getElem?_getD, last] at point

theorem boundary_zero (start : curve.head? = some 0) : boundary curve m z 0 = m.front := by
  rw [boundary, Nat.zero_mul, Nat.zero_div, lookup_shrink_start start, Nat.mul_zero, Nat.zero_div, Nat.add_zero]

theorem boundary_last (points : curve.length = 17) (final : curve.getLast? = some 32768) (hz : 1 ≤ z)
    (hm : m.front ≤ m.back) : boundary curve m z z = m.back := by
  rw [boundary, Nat.mul_div_cancel_left _ hz, lookup_shrink_end points final, Nat.mul_div_cancel _ (by decide),
    Nat.add_sub_of_le hm]

theorem boundary_mono (rises : curve.Pairwise (· ≤ ·)) (h : k ≤ l) : boundary curve m z k ≤ boundary curve m z l := by
  have input : k * 32768 / z ≤ l * 32768 / z := Nat.div_le_div_right (Nat.mul_le_mul_right _ h)
  exact Nat.add_le_add_left
    (Nat.div_le_div_right (Nat.mul_le_mul_left _ (lookup_mono rises input))) _

theorem boundaries_length : (boundaries curve m z).length = z + 1 := by
  rw [boundaries, List.length_map, List.length_range]

theorem boundaries_getD (h : k ≤ z) : (boundaries curve m z).getD k 0 = boundary curve m z k := by
  rw [List.getD_eq_getElem _ _ (by rw [boundaries_length]; omega)]
  simp [boundaries]

theorem boundaries_pairwise (rises : curve.Pairwise (· ≤ ·)) : (boundaries curve m z).Pairwise (· ≤ ·) :=
  List.pairwise_map.2 (List.pairwise_lt_range.imp fun h => boundary_mono rises h.le)

/-! ### The zone of a centre (R103, R104) -/

theorem inZone_iff : inZone bounds z k c = true ↔
    bounds.getD k 0 ≤ c ∧ (c < bounds.getD (k + 1) 0 ∨ k + 1 = z ∧ c = bounds.getD z 0) := by
  simp only [inZone, Bool.and_eq_true, Bool.or_eq_true, decide_eq_true_eq]

/-- R103: a zone of no width holds no centre, unless it is the last. -/
theorem inZone_of_no_width (hk : k + 1 < z) (flat : bounds.getD k 0 = bounds.getD (k + 1) 0) :
    inZone bounds z k c = false := by
  rw [← Bool.not_eq_true, inZone_iff]
  omega

/-- R104: the last zone, when it has no width, holds its one position. -/
theorem inZone_last_of_no_width (hz : 1 ≤ z) (flat : bounds.getD (z - 1) 0 = bounds.getD z 0) :
    inZone bounds z (z - 1) c = true ↔ c = bounds.getD z 0 := by
  rw [inZone_iff, Nat.sub_add_cancel hz, flat]
  omega

/-- R104: a centre lies in no zone after one that holds it. -/
theorem not_inZone_of_lt (order : bounds.getD (k + 1) 0 ≤ bounds.getD l 0) (hl : l < z) (hkl : k < l)
    (hk : inZone bounds z k c = true) : ¬ inZone bounds z l c = true := by
  rw [inZone_iff] at *
  omega

theorem inZone_unique (mono : ∀ k l, k ≤ l → l ≤ z → bounds.getD k 0 ≤ bounds.getD l 0) (hk : k < z) (hl : l < z)
    (ink : inZone bounds z k c = true) (inl : inZone bounds z l c = true) : k = l := by
  rcases Nat.lt_trichotomy k l with before | same | after
  · exact absurd inl (not_inZone_of_lt (mono _ _ before hl.le) hl before ink)
  · exact same
  · exact absurd ink (not_inZone_of_lt (mono _ _ after hk.le) hk after inl)

/-! ### The values of a zone (R105 to R107) -/

theorem zoneValues_eq (snap : Snapshot) (cells : List Cell) : zoneValues snap bounds cells z k =
    cells.zipIdx.filterMap fun (c, j) =>
      if inZone bounds z k (binCentre snap j) = true ∧ c.filt.state ≠ .invalid then c.filt.value else none := by
  have value (c : Cell) (j : Nat) :
      (if inZone bounds z k (binCentre snap j) then contribution c else none) =
        if inZone bounds z k (binCentre snap j) = true ∧ c.filt.state ≠ .invalid then c.filt.value else none := by
    rw [contribution, ite_and, ite_not]
  simp only [zoneValues, value, List.mapIdx_eq_zipIdx_map, List.filterMap_map]
  rfl

theorem zoneValues_of_none_inside (snap : Snapshot) (cells : List Cell) (empty : ∀ c, inZone bounds z k c = false) :
    zoneValues snap bounds cells z k = [] := by
  simp [zoneValues_eq, empty]

theorem formZone_eq (values : List Nat) :
    formZone values =
      if values = [] then ⟨none, 0⟩ else ⟨some (nearestNat values.sum values.length), values.length⟩ := by
  cases values <;> rfl

/-- R88: a zone profile is formed of at least one zone, between the set's mapping edges. -/
theorem zonesOf_eq_some_iff {a : AccSet} {body : PerKind (List Cell)} {p : ZoneProfile} (hm : a.mapping = some m) :
    zonesOf a body = some p ↔ 1 ≤ a.snap.zoneCount ∧ p = formZones a.snap m (body.get a.snap.zoneKind) := by
  unfold zonesOf
  rw [hm]
  by_cases h : 1 ≤ a.snap.zoneCount <;> simp [h, eq_comm]

theorem formZones_zone (snap : Snapshot) (cells : List Cell) (hk : k < snap.zoneCount) :
    (formZones snap m cells).zones[k]? =
      some (formZone (zoneValues snap (formZones snap m cells).bounds cells snap.zoneCount k)) := by
  simp [formZones, hk]

end Sys2Proof.Machine
end

section
open Sys2Proof Sys2Proof.Machine

/-- Settles O39: the boundaries of the curve, the zone of a centre, and the values of a zone. -/
theorem zonesSpanTheMappingEdges : Obligations.ZonesSpanTheMappingEdges := by
  intro a body z m formed mapped edges points rises start final n P holds centre
  obtain ⟨hn, rfl⟩ := (zonesOf_eq_some_iff mapped).1 formed
  have bound (k : Nat) (hk : k ≤ n) : P k = boundary a.snap.shrinkCurve m n k := boundaries_getD hk
  have mono (k l : Nat) (hkl : k ≤ l) (hl : l ≤ n) : P k ≤ P l := by
    rw [bound k (hkl.trans hl), bound l hl]
    exact boundary_mono rises hkl
  refine ⟨hn, rfl, boundaries_length, ?_, boundaries_pairwise rises, ?_, ?_, bound, fun k hk flat => ?_,
    fun c flat => ?_, fun c k l hk hl => inZone_unique mono hk hl, fun k hk => ?_⟩
  · exact (List.length_map ..).trans List.length_range
  · exact (bound 0 n.zero_le).trans (boundary_zero start)
  · exact (bound n le_rfl).trans (boundary_last points final hn edges)
  · rw [formZones_zone _ _ (Nat.lt_of_succ_lt hk),
      zoneValues_of_none_inside _ _ fun _ => inZone_of_no_width hk flat]
    rfl
  · exact inZone_last_of_no_width hn flat
  · rw [formZones_zone _ _ hk, formZone_eq, zoneValues_eq]
    rfl
end

section
/-! ## Proofs: the finalized event outside TURN_WAIT (R80 to R93) -/

namespace Sys2Proof.Machine

/-- R80: outside TURN_WAIT a finalization starts no scan; the entry's PROFILE_READY follows the set's handing on. -/
theorem finalizeSet_of_not_turnWait (i : SetId) {s : State} (hs : s.trav.state ≠ .turnWait) :
    let e := formEntry (s.edge.get i) s.ring s.mon.state
    finalizeSet i s = notify (readyNotice e) (passOn i { s with ring := s.ring.add e }) := by
  intro e
  have hstate : (passOn i { s with ring := s.ring.add e }).trav.state ≠ .turnWait := by rwa [passOn_trav]
  exact congrArg (notify (readyNotice e)) (if_neg hstate)

theorem exec_finalized_of_finalizing {i : SetId} {s : State} (hi : s.edge.finalizing = some i) :
    exec .finalized s = .next (settle (finalizeSet i s)) := by
  simp only [exec, execFinalized, hi]

end Sys2Proof.Machine
end

section
open Sys2Proof Sys2Proof.Machine

/-- Settles O35: `finalizedAs` gives the entry and the state it joins, and no scan starts from there. -/
theorem finalizedScansJoinTheRing : Obligations.FinalizedScansJoinTheRing := by
  intro s i hi hs
  refine ⟨_, _, finalizedAs s i, ?_⟩
  rw [exec_finalized_of_finalizing hi, finalizeSet_of_not_turnWait i hs]
end

section
/-! ## Proofs: what the ring's own operations keep (R92 to R95) -/

namespace Sys2Proof.Machine

/-- R92, R94, R95: what the ring's entries and pins promise of themselves. -/
structure Ring.Sound (r : Ring) : Prop where
  bounded : r.entries.length ≤ 4
  ordered : r.scans.Pairwise (· < ·)
  marked  : ∀ e ∈ r.entries, e.marked = true → r.pinned e.header.scan = true
  known   : ∀ p n, r.pins.get p = some n → n ∈ r.scans

variable {r u : Ring}

theorem Ring.mem_scans {n : Nat} : n ∈ r.scans ↔ ∃ e ∈ r.entries, e.header.scan = n := by
  simp [Ring.scans]

theorem Ring.scans_sublist (h : u.entries.Sublist r.entries) : u.scans.Sublist r.scans := h.map _

/-- The promises do not speak of the flush mark, the reseed-pending flag and the break scan. -/
theorem Ring.Sound.of_eq (h : r.Sound) (he : u.entries = r.entries) (hp : u.pins = r.pins) : u.Sound := by
  obtain ⟨bounded, ordered, marked, known⟩ := h
  constructor <;> simpa only [Ring.scans, Ring.pinned, he, hp]

/-! ### Pins -/

theorem PerPort.eq_of_get_set {α : Type} {v : PerPort α} {p q : PortId} {a b : α} (h : (v.set p a).get q = b) :
    q = p ∧ a = b ∨ v.get q = b := by
  by_cases e : q = p
  · subst e
    exact .inl ⟨rfl, by simpa using h⟩
  · exact .inr (by rwa [PerPort.get_set_other _ _ _ _ e] at h)

/-- R94: what a port pins stays pinned when a port that pins nothing takes a pin. -/
theorem Ring.pinned_pin {p : PortId} (scan n : Nat) (idle : r.pins.get p = none) (h : r.pinned n = true) :
    ({ r with pins := r.pins.set p (some scan) } : Ring).pinned n = true := by
  obtain ⟨q, hq⟩ := (pinned_iff r n).1 h
  have other : q ≠ p := by
    rintro rfl
    simp [idle] at hq
  exact (pinned_iff _ n).2 ⟨q, (PerPort.get_set_other _ _ _ _ other).trans hq⟩

/-- R94, R96: an idle port pins an entry of the ring. -/
theorem Ring.Sound.pin (h : r.Sound) {p : PortId} {e : RingEntry} (idle : r.pins.get p = none)
    (he : e ∈ r.entries) : ({ r with pins := r.pins.set p (some e.header.scan) } : Ring).Sound where
  bounded := h.bounded
  ordered := h.ordered
  marked x hx hm := Ring.pinned_pin _ _ idle (h.marked x hx hm)
  known q n hn := by
    rcases PerPort.eq_of_get_set hn with ⟨_, hn⟩ | hn
    · exact Ring.mem_scans.2 ⟨e, he, Option.some.inj hn⟩
    · exact h.known q n hn

theorem Ring.mem_release {p : PortId} {e : RingEntry} : e ∈ (r.release p).entries ↔
    e ∈ r.entries ∧ (e.marked = true → (r.release p).pinned e.header.scan = true) := by
  have pins : (r.release p).pinned e.header.scan = ({ r with pins := r.pins.set p none } : Ring).pinned e.header.scan :=
    rfl
  rw [pins]
  cases hm : e.marked <;> simp [Ring.release, hm]

/-- R94: a pin released, and the marked entries that no port pins any more removed. -/
theorem Ring.Sound.release (h : r.Sound) (p : PortId) : (r.release p).Sound where
  bounded := (List.filter_sublist.length_le).trans h.bounded
  ordered := h.ordered.sublist (Ring.scans_sublist List.filter_sublist)
  marked _ he := (Ring.mem_release.1 he).2
  known q n hn := by
    have still : r.pins.get q = some n := (PerPort.eq_of_get_set hn).resolve_left (by simp)
    obtain ⟨e, he, rfl⟩ := Ring.mem_scans.1 (h.known q n still)
    exact Ring.mem_scans.2 ⟨e, Ring.mem_release.2 ⟨he, fun _ => (pinned_iff _ _).2 ⟨q, hn⟩⟩, rfl⟩

/-! ### Flushes and new entries -/

theorem Ring.flushed_scans (r : Ring) :
    r.flushed.scans = (r.entries.filter fun e => r.pinned e.header.scan).map fun e => e.header.scan := by
  simp [Ring.flushed, Ring.scans, Function.comp_def]

/-- R95: the pinned entries alone stay, and are marked. -/
theorem Ring.Sound.flushed (h : r.Sound) : r.flushed.Sound where
  bounded := by simpa [Ring.flushed] using (List.length_filter_le _ _).trans h.bounded
  ordered := by
    rw [Ring.flushed_scans]
    exact h.ordered.sublist (List.filter_sublist.map _)
  marked e he _ := by
    obtain ⟨x, hx, rfl⟩ := List.mem_map.1 he
    exact (List.mem_filter.1 hx).2
  known q n hn := by
    obtain ⟨e, he, rfl⟩ := Ring.mem_scans.1 (h.known q n hn)
    rw [Ring.flushed_scans]
    exact List.mem_map.2 ⟨e, List.mem_filter.2 ⟨he, (pinned_iff _ _).2 ⟨q, hn⟩⟩, rfl⟩

/-- R93: three ports cannot pin the four entries of a full ring. -/
theorem Ring.Sound.exists_unpinned (h : r.Sound) (full : 4 ≤ r.entries.length) :
    ∃ e ∈ r.entries, r.pinned e.header.scan = false := by
  by_contra none
  have pinned (e : RingEntry) (he : e ∈ r.entries) : r.pinned e.header.scan = true := by
    by_contra hp
    exact none ⟨e, he, by simpa using hp⟩
  have distinct : (r.scans.map some).Nodup :=
    List.Nodup.map (Option.some_injective Nat) (h.ordered.imp Nat.ne_of_lt)
  have named : r.scans.map some ⊆ [r.pins.sp0, r.pins.sp1, r.pins.sp2] := by
    intro x hx
    obtain ⟨n, hn, rfl⟩ := List.mem_map.1 hx
    obtain ⟨e, he, rfl⟩ := Ring.mem_scans.1 hn
    have := pinned e he
    simp only [Ring.pinned, Bool.or_eq_true, decide_eq_true_eq] at this
    rcases this with (this | this) | this <;> simp [this]
  have : r.scans.length ≤ 3 := by simpa using (List.subperm_of_subset distinct named).length_le
  have : r.scans.length = r.entries.length := List.length_map _
  omega

theorem Ring.room_sublist (r : Ring) : r.room.Sublist r.entries := by
  unfold Ring.room
  split
  · exact List.eraseP_sublist
  · exact List.Sublist.refl _

/-- R93: the entry that makes room is not pinned. -/
theorem Ring.mem_room {e : RingEntry} (he : e ∈ r.entries) (hp : r.pinned e.header.scan = true) : e ∈ r.room := by
  unfold Ring.room
  split
  · exact (List.mem_eraseP_of_neg (by simp [hp])).2 he
  · exact he

theorem Ring.Sound.length_room (h : r.Sound) : r.room.length ≤ 3 := by
  unfold Ring.room
  split
  · rename_i full
    obtain ⟨e, he, hp⟩ := h.exists_unpinned full
    have := h.bounded
    rw [List.length_eraseP_of_mem he (by simp [hp])]
    omega
  · omega

theorem Ring.mem_add_scans {e : RingEntry} {n : Nat} (hn : n ∈ (r.add e).scans) :
    n ∈ r.scans ∨ n = e.header.scan := by
  simp only [Ring.scans, Ring.add, List.map_append, List.mem_append, List.map_cons, List.map_nil,
    List.mem_singleton] at hn
  exact hn.imp_left fun h => (r.room_sublist.map _).subset h

/-- R80, R86: an entry newer than those of the ring joins it. -/
theorem Ring.Sound.add (h : r.Sound) {e : RingEntry} (unmarked : e.marked = false)
    (newer : ∀ n ∈ r.scans, n < e.header.scan) : (r.add e).Sound where
  bounded := by
    have := h.length_room
    simp only [Ring.add, List.length_append, List.length_singleton]
    omega
  ordered := by
    have kept := Ring.scans_sublist (u := { r with entries := r.room }) r.room_sublist
    have : (r.add e).scans = ({ r with entries := r.room } : Ring).scans ++ [e.header.scan] := by
      simp [Ring.scans, Ring.add]
    rw [this, List.pairwise_append]
    refine ⟨h.ordered.sublist kept, List.pairwise_singleton _ _, fun n hn m hm => ?_⟩
    rw [List.mem_singleton.1 hm]
    exact newer n (kept.subset hn)
  marked x hx hm := by
    rcases List.mem_append.1 hx with hx | hx
    · exact h.marked x (r.room_sublist.subset hx) hm
    · rw [List.mem_singleton.1 hx, unmarked] at hm
      cases hm
  known q n hn := by
    obtain ⟨x, hx, rfl⟩ := Ring.mem_scans.1 (h.known q n hn)
    refine Ring.mem_scans.2 ⟨x, List.mem_append_left _ (Ring.mem_room hx ?_), rfl⟩
    exact (pinned_iff _ _).2 ⟨q, hn⟩

end Sys2Proof.Machine
end

section
/-! ## Proofs: what the events of the frame leave of the ring

No event but a finalization adds to the ring, and none but a request, the end of a sending and a port reset touches a
pin or an engine. `RingKept` says so of an operation, and that the sets take no scan that had been started before. -/

namespace Sys2Proof.Machine

theorem AccSet.mem_holds {a : AccSet} {m : Nat} : m ∈ a.holds ↔ a.state ≠ .free ∧ a.scan = m := by
  unfold AccSet.holds
  split <;> simp_all

theorem AccSet.holds_of_view {a b : AccSet} (h : a.view = b.view) : a.holds = b.holds := by
  obtain ⟨hs, hn, _, _⟩ : a.state = b.state ∧ a.scan = b.scan ∧ a.dir = b.dir ∧ a.slipped = b.slipped := by
    simpa [AccSet.view] using h
  simp only [AccSet.holds, hs, hn]

/-- From `s` to `t` the ring's entries, the pins and the engines stay, and a scan that a set comes to hold is newer than
the last one started. -/
structure RingKept (s t : State) : Prop where
  entries : t.ring.entries = s.ring.entries
  pins    : t.ring.pins = s.ring.pins
  engine  : ∀ p, (t.ports.get p).engine = (s.ports.get p).engine
  number  : s.trav.scanNumber ≤ t.trav.scanNumber
  sets    : ∀ i, ∀ m ∈ (t.edge.get i).holds, m ∈ (s.edge.get i).holds ∨ s.trav.scanNumber < m

variable {s t u : State}

theorem RingKept.refl (s : State) : RingKept s s := ⟨rfl, rfl, fun _ => rfl, le_rfl, fun _ _ => .inl⟩

theorem RingKept.trans (h : RingKept s t) (k : RingKept t u) : RingKept s u :=
  ⟨k.entries.trans h.entries, k.pins.trans h.pins, fun p => (k.engine p).trans (h.engine p), h.number.trans k.number,
    fun i m hm => (k.sets i m hm).elim (h.sets i m) fun hlt => .inr (h.number.trans_lt hlt)⟩

theorem RingKept.of_onlyNotices {ids : List TallyId} (h : OnlyNotices ids s t) : RingKept s t :=
  ⟨congrArg Ring.entries h.ring, congrArg Ring.pins h.ring, fun p => (h.ports.get p).engine,
    (congrArg Traverse.scanNumber h.trav).ge, fun _ _ hm => .inl (h.edge ▸ hm)⟩

/-- The fields that `RingKept` speaks of. -/
def State.ringView (s : State) :
    List RingEntry × PerPort (Option Nat) × PerPort Port × Nat × Option Nat × Option Nat :=
  (s.ring.entries, s.ring.pins, s.ports, s.trav.scanNumber, s.edge.x.holds, s.edge.y.holds)

theorem RingKept.of_view (e : t.ringView = s.ringView) : RingKept s t := by
  simp only [State.ringView, Prod.mk.injEq] at e
  obtain ⟨entries, pins, ports, number, hx, hy⟩ := e
  refine ⟨entries, pins, fun p => by rw [ports], number.ge, fun i m hm => .inl ?_⟩
  cases i
  · exact hx ▸ hm
  · exact hy ▸ hm

/-- An update of other fields. -/
theorem RingKept.update (h : RingKept s t) (e : u.ringView = t.ringView) : RingKept s u := h.trans (.of_view e)

/-! ### Notices, counts, alarms and head commands -/

theorem RingKept.thenNotify (h : RingKept s t) (n : Notice) : RingKept s (notify n t) :=
  h.trans (.of_onlyNotices (onlyNotices_notify [] n t))

theorem RingKept.thenQueueAt (h : RingKept s t) (n : Notice) (p : PortId) : RingKept s (queueAt n p t) :=
  h.trans (.of_onlyNotices (onlyNotices_queueAt [] n p t))

theorem RingKept.thenCount (h : RingKept s t) (id : TallyId) (n : Nat) : RingKept s (count id n t) :=
  h.trans (.of_onlyNotices (onlyNotices_count id n t))

theorem RingKept.thenCountTimes (h : RingKept s t) (id : TallyId) (n : Nat) : RingKept s (countTimes id n t) :=
  h.trans (.of_onlyNotices (onlyNotices_countTimes id n t))

theorem RingKept.thenSettle (h : RingKept s t) : RingKept s (settle t) :=
  h.trans (.of_onlyNotices (onlyNotices_settle [] t))

theorem RingKept.thenOnPort (h : RingKept s t) (p : PortId) (f : Port → Port)
    (hf : (f (t.ports.get p)).engine = (t.ports.get p).engine) : RingKept s (t.onPort p f) := by
  refine h.trans ⟨rfl, rfl, fun q => ?_, le_rfl, fun _ _ => .inl⟩
  by_cases e : q = p
  · subst e
    simpa using hf
  · rw [State.onPort_ports, PerPort.get_set_other _ _ _ _ e]

theorem RingKept.thenOnAlarms (h : RingKept s t) (f : List Alarm → List Alarm) : RingKept s (t.onAlarms f) :=
  h.update rfl

theorem RingKept.thenRaiseAlarm (h : RingKept s t) (kind : AlarmKind) (cause : Option Cause) (scan : Nat)
    (pos : Option Nat) : RingKept s (raiseAlarm kind cause scan pos t) :=
  RingKept.trans (t := { t with alarms := (raiseAlarm kind cause scan pos t).alarms }) (h.update (by rfl))
    (.of_onlyNotices (onlyNotices_raiseAlarm [] kind cause scan pos t))

theorem RingKept.thenClearBreakAlarm (h : RingKept s t) : RingKept s (clearBreakAlarm t) := by
  unfold clearBreakAlarm
  split
  · exact h
  · exact ((h.thenOnAlarms _).thenNotify _).thenOnAlarms _

theorem RingKept.thenRebreakAlarm (h : RingKept s t) : RingKept s (rebreakAlarm t) := by
  unfold rebreakAlarm
  split
  · exact h
  · exact (h.thenOnAlarms _).thenNotify _

theorem RingKept.thenIssue (h : RingKept s t) (c : HeadCmd) : RingKept s (issue c t) := h.update rfl

theorem RingKept.thenChangeState (h : RingKept s t) (st : TravState) : RingKept s (changeState st t) := by
  unfold changeState
  split
  · exact h
  · exact (h.update (by rfl)).thenNotify _

theorem RingKept.thenPark (h : RingKept s t) : RingKept s (park t) := (h.thenIssue _).thenChangeState _

/-! ### The break monitor -/

theorem RingKept.thenBreakCause (h : RingKept s t) (cause : Cause) (scan : Nat) (pos : Option Nat) :
    RingKept s (breakCause cause scan pos t) := by
  have broken (f : BreakMonitor → BreakMonitor) : RingKept s (breakEffects (t.onMon f)) := h.update rfl
  have declared : RingKept s (declareBreak cause scan pos t) :=
    ((((broken _).thenRaiseAlarm _ _ _ _).update (by rfl)).thenCount _ _).thenNotify _
  unfold breakCause
  split
  · exact declared
  · exact declared
  · exact ((broken _).thenRebreakAlarm.thenCount _ _).thenNotify _
  · exact h
  · exact h

theorem RingKept.thenEnterRecovery (h : RingKept s t) (cause : Cause) : RingKept s (enterRecovery cause t) :=
  (h.update (by rfl)).thenNotify _

theorem RingKept.thenProvenSheet (h : RingKept s t) : RingKept s (provenSheet t) := by
  have proven : RingKept s (t.onMon (fun m => { m with state := .sheetOn, recovery := 0, refWidth := none })) :=
    h.update rfl
  exact (proven.thenClearBreakAlarm.update (by rfl)).thenNotify _

theorem RingKept.thenReportComplete (h : RingKept s t) (width : Nat) : RingKept s (reportComplete width t) := by
  unfold reportComplete
  split
  · exact (h.update (by rfl)).thenNotify _
  · have counted : RingKept s (t.onMon (fun m => { m with recovery := m.recovery + 1 })) := h.update rfl
    split
    · dsimp only
      split
      · exact counted.thenProvenSheet
      · exact counted
    · exact h.update rfl
  all_goals exact h

theorem RingKept.thenEdgeEffect (h : RingKept s t) (l : Line) : RingKept s (edgeEffect l t) := by
  unfold edgeEffect
  split
  · exact h.thenBreakCause _ _ _
  · exact h.thenEnterRecovery _
  · split
    · exact (h.update (by rfl)).thenNotify _
    · exact h

theorem RingKept.thenTakeLevel (h : RingKept s t) (l : Line) : RingKept s (takeLevel l t) := h.update rfl

theorem RingKept.thenCompareLevel (h : RingKept s t) (l : Line) : RingKept s (compareLevel l t) := h.update rfl

theorem RingKept.thenResetLine (h : RingKept s t) (l : Line) (old : Setup) : RingKept s (resetLine l old t) := by
  unfold resetLine
  split
  · exact h
  · exact h.update rfl

theorem RingKept.thenEnableInScanEnd (h : RingKept s t) (l : Line) (old : Setup) :
    RingKept s (enableInScanEnd l old t) := by
  have reset := h.thenResetLine l old
  unfold enableInScanEnd
  dsimp only
  split
  · split
    · exact (reset.thenTakeLevel l).thenEdgeEffect l
    · exact reset.thenCompareLevel l
  · exact reset

/-! ### Apply events and commits -/

theorem RingKept.thenApplyValues (h : RingKept s t) (l : List (Item × SetupValue)) (point : ApplyPoint) :
    RingKept s (applyValues l point t) := by
  unfold applyValues
  split
  · exact h
  · exact (h.update (by rfl)).thenNotify _

theorem RingKept.thenApplyArmed (h : RingKept s t) (sel : Armed → Bool) (point : ApplyPoint) :
    RingKept s (applyArmed sel point t) :=
  (h.update (by rfl)).thenApplyValues _ _

theorem RingKept.thenTestGroup (h : RingKept s t) (was : Bool) : RingKept s (testGroup was t) := by
  unfold testGroup
  split
  · split <;> exact h.update rfl
  · exact h

theorem RingKept.thenApplyScanEnd (h : RingKept s t) (was : Bool) : RingKept s (applyScanEnd was t) :=
  (((h.thenApplyArmed _ _).thenTestGroup _).thenEnableInScanEnd _ _).thenEnableInScanEnd _ _

theorem RingKept.thenNotifySuperseded (h : RingKept s t) (armed : List Armed) (l : List Staged) (p : PortId)
    (target : Target) (q : PortId) : RingKept s (notifySuperseded armed l p target q t) := by
  unfold notifySuperseded
  dsimp only
  split
  · exact h
  · exact h.thenQueueAt _ _

theorem RingKept.thenCommitTaken (h : RingKept s t) (p : PortId) (target : Target) :
    RingKept s (commitTaken p target t) := by
  have armed (a : List Armed) : RingKept s ((t.setStaging p []).onSetup (fun v => { v with armed := a })) :=
    h.update rfl
  unfold commitTaken
  dsimp only
  split
  · exact (((((armed _).thenApplyValues _ _).thenNotifySuperseded _ _ _ _ _).thenNotifySuperseded _ _ _ _ _
      ).thenNotifySuperseded _ _ _ _ _).thenTestGroup _
  · exact (((((armed _).thenApplyValues _ _).thenNotifySuperseded _ _ _ _ _).thenNotifySuperseded _ _ _ _ _
      ).thenNotifySuperseded _ _ _ _ _)

/-! ### The sets -/

/-- A set is replaced by one that holds no scan but those it held and newer ones. -/
theorem RingKept.thenSet (h : RingKept s t) (i : SetId) (a : AccSet)
    (ha : ∀ m ∈ a.holds, m ∈ (t.edge.get i).holds ∨ t.trav.scanNumber < m) (entries : u.ring.entries = t.ring.entries)
    (pins : u.ring.pins = t.ring.pins) (ports : u.ports = t.ports) (number : t.trav.scanNumber ≤ u.trav.scanNumber)
    (edge : ∀ j, u.edge.get j = (t.edge.set i a).get j) : RingKept s u := by
  refine h.trans ⟨entries, pins, fun p => by rw [ports], number, fun j m hm => ?_⟩
  rw [edge] at hm
  rcases SetId.eq_or_other i j with rfl | rfl
  · exact ha m (by simpa using hm)
  · exact .inl (by simpa using hm)

theorem AccSet.holds_free : AccSet.free.holds = none := rfl

theorem RingKept.thenFreeAccumulating (h : RingKept s t) : RingKept s (freeAccumulating t) := by
  unfold freeAccumulating
  split
  · rename_i i _
    exact h.thenSet i AccSet.free (by simp [AccSet.holds_free]) rfl rfl rfl le_rfl fun j => by cases j <;> rfl
  · exact h.update rfl

theorem RingKept.thenOnSet (h : RingKept s t) (i : SetId) (f : AccSet → AccSet)
    (hf : (f (t.edge.get i)).view = (t.edge.get i).view) : RingKept s (t.onSet i f) :=
  h.thenSet i _ (fun _ hm => .inl (AccSet.holds_of_view hf ▸ hm)) rfl rfl rfl le_rfl fun _ => rfl

theorem RingKept.thenOnEdge (h : RingKept s t) (f : EdgeUnit → EdgeUnit)
    (hf : ∀ i, (f t.edge).get i = t.edge.get i) : RingKept s (t.onEdge f) :=
  h.trans ⟨rfl, rfl, fun _ => rfl, le_rfl, fun i _ hm => .inl (congrArg AccSet.holds (hf i) ▸ hm)⟩

theorem RingKept.thenUpdateMapping (h : RingKept s t) (e : ScanEdges) (snap : Snapshot) (scan : Nat) :
    RingKept s (updateMapping e snap scan t) := by
  have sets (v : EdgeUnit) (m : Option Edges) (j : Nat) (i : SetId) :
      ({ v with mapping := m, jumps := j } : EdgeUnit).get i = v.get i := by cases i <;> rfl
  unfold updateMapping
  dsimp only
  split
  · exact h.thenOnEdge _ (sets _ _ _)
  · split
    · exact h.thenOnEdge _ (sets _ _ _)
    · split
      · exact ((h.thenCount _ _).thenRaiseAlarm _ _ _ _).thenOnEdge _ (sets _ _ _)
      · exact ((h.thenCount _ _).thenRaiseAlarm _ _ _ _).thenOnEdge _ (sets _ _ _)

theorem RingKept.thenHandOver (h : RingKept s t) (i : SetId) (hi : (t.edge.get i).state ≠ .free) :
    RingKept s (handOver i t) := by
  refine h.thenSet i _ (fun m hm => .inl ?_) rfl rfl rfl le_rfl fun j => by cases j <;> rfl
  exact AccSet.mem_holds.2 ⟨hi, (AccSet.mem_holds.1 hm).2⟩

theorem RingKept.thenTrack (h : RingKept s t) (k : Option Tracker) :
    RingKept s (t.onEdge (fun e => { e with tracker := k })) :=
  h.thenOnEdge _ (EdgeUnit.get_tracker _ _)

theorem RingKept.thenAddToBin (h : RingKept s t) (i : SetId) (j : Nat) (c : Converted) :
    RingKept s (addToBin i j c t) := by
  unfold addToBin
  have added (bins : List Bin) (n : BitVec 32) :
      RingKept s (t.onSet i (fun a => { a with bins := a.bins.modify j (fun b => b.add c), accepted := n })) :=
    h.thenOnSet i _ rfl
  exact ((added [] _).update (by rfl)).thenCountTimes _ _

theorem RingKept.thenBinStage (h : RingKept s t) (i : SetId) (k : Tracker) (c : Converted) :
    RingKept s (binStage i k c t) := by
  unfold binStage
  split
  · exact h.thenCount _ _
  · split
    · exact h.thenCount _ _
    · exact (h.thenTrack _).thenAddToBin _ _ _

theorem RingKept.thenSheetSample (h : RingKept s t) (i : SetId) (k : Tracker) (c : Converted) :
    RingKept s (sheetSample i k c t) := by
  unfold sheetSample
  dsimp only
  refine RingKept.thenBinStage ?_ _ _ _
  split
  · exact ((h.thenTrack _).thenCount _ _).thenRaiseAlarm _ _ _ _
  · exact h.thenTrack _

/-! ### Standardizations -/

theorem RingKept.thenStartStandardization (h : RingKept s t) : RingKept s (startStandardization t) := by
  have applied : RingKept s (applyGroup (t.onStd (fun v => { v with retry := none }))) := by
    unfold applyGroup
    split
    · exact RingKept.thenApplyArmed (h.update (by rfl)) _ _
    · exact h.update rfl
  exact RingKept.thenIssue (applied.update (by rfl)) _

theorem RingKept.thenEnterStandardizing (h : RingKept s t) : RingKept s (enterStandardizing t) :=
  RingKept.thenStartStandardization (RingKept.thenChangeState (h.update (by rfl)) _)

theorem RingKept.thenConcludeStandardization (h : RingKept s t) (x : StdFlight) :
    RingKept s (concludeStandardization x t) := by
  have taken : RingKept s { resultTaken x t with
      alarms := (reportResult (recordOf x t) (resultTaken x t)).alarms } := by
    unfold resultTaken
    dsimp only
    split <;> exact h.update rfl
  have reported := taken.trans (.of_onlyNotices (onlyNotices_reportResult (recordOf x t) (resultTaken x t)))
  rw [concludeStandardization_eq, actOnGroupMark_eq]
  exact reported.update rfl

/-! ### The traverse controller -/

theorem RingKept.thenEnterPositioning (h : RingKept s t) (target : MoveTarget) :
    RingKept s (enterPositioning target t) := by
  have clamped : RingKept s (clampDwell target t) := by cases target <;> exact h.update rfl
  have sent : RingKept s (issue (.move ((clampDwell target t).targetPos target)) (clampDwell target t)) :=
    clamped.thenIssue _
  exact RingKept.thenChangeState (sent.update (by rfl)) _

theorem RingKept.thenResume (h : RingKept s t) : RingKept s (resume t) := by
  unfold resume
  split
  · split
    · exact h.thenEnterPositioning _
    · exact h.thenEnterPositioning _
    · exact h.thenChangeState _
  · exact h.thenChangeState _

theorem RingKept.thenArrivalAtPark (h : RingKept s t) : RingKept s (arrivalAtPark t) := by
  unfold arrivalAtPark
  extract_lets a v
  have arrived : RingKept s v := h.update rfl
  split
  · exact arrived.thenEnterStandardizing
  · exact arrived.thenResume

theorem RingKept.thenIdleStart (h : RingKept s t) (target : MoveTarget) : RingKept s (idleStart target t) := by
  unfold idleStart
  split
  · exact h.thenPark
  · split
    · exact h.thenEnterStandardizing
    · exact h.thenEnterPositioning _

theorem RingKept.thenReportScanEnd (h : RingKept s t) (code : EndCode) (width : Nat) :
    RingKept s (reportScanEnd code width t) := by
  unfold reportScanEnd
  split
  · exact h
  · have noted (n : Notice) : RingKept s (notify n (count code.tally 1 (t.onTrav (fun v => { v with cur := none })))) :=
      (RingKept.thenCount (h.update (by rfl)) _ _).thenNotify _
    dsimp only
    split
    · exact (noted _).thenReportComplete _
    · exact noted _

theorem RingKept.thenEndScan (h : RingKept s t) (code : EndCode) : RingKept s (endScan code t) :=
  (h.thenFreeAccumulating.thenReportScanEnd _ _).thenApplyScanEnd _

theorem RingKept.thenEnterFault (h : RingKept s t) (keepPark : Bool) : RingKept s (enterFault keepPark t) :=
  RingKept.thenChangeState (h.update (by rfl)) _

theorem RingKept.thenTakeHeadFault (h : RingKept s t) : RingKept s (takeHeadFault t) := by
  have ended : RingKept s (if (issue .stop t).trav.cur.isSome then endScan .headFault (issue .stop t)
      else issue .stop t) := by
    split
    · exact (h.thenIssue _).thenEndScan _
    · exact h.thenIssue _
  unfold takeHeadFault
  dsimp only
  generalize (if (issue .stop t).trav.cur.isSome then _ else _) = v at ended
  refine RingKept.thenEnterFault ?_ false
  unfold abandonStandardization
  split
  · exact ended.update rfl
  · exact ended

theorem RingKept.thenHeadFault (h : RingKept s t) : RingKept s (headFault t) := by
  unfold headFault
  split
  · exact h
  · split
    · exact h.thenTakeHeadFault
    · exact h
  · exact h.thenTakeHeadFault

/-- R15, R74: the scan that a set is claimed for is the next one. -/
theorem RingKept.thenRunScan (h : RingKept s t) (i : SetId) (dir : Dir) : RingKept s (runScan i dir t) := by
  have applied : RingKept s (applyAtScanStart t) := h.thenApplyArmed _ _
  unfold runScan
  generalize applyAtScanStart t = v at applied
  refine RingKept.thenChangeState ?_ _
  refine applied.thenSet i (claimedSet (v.trav.scanNumber + 1) dir
    (v.onTrav (fun w => { w with scanNumber := v.trav.scanNumber + 1 }))) (fun m hm => .inr ?_)
    rfl rfl rfl (Nat.le_succ _) fun j => by cases j <;> rfl
  exact (AccSet.mem_holds.1 hm).2 ▸ Nat.lt_succ_self _

theorem RingKept.thenStartScan (h : RingKept s t) (dir : Dir) : RingKept s (startScan dir t) := by
  unfold startScan
  split
  · exact RingKept.thenChangeState (h.update (by rfl)) _
  · split
    · exact h.thenHeadFault
    · exact h.thenRunScan _ _

theorem RingKept.thenArrivalAtTarget (h : RingKept s t) : RingKept s (arrivalAtTarget t) := by
  unfold arrivalAtTarget
  split
  · split
    · exact h.thenStartScan _
    · split
      · exact h.thenStartScan _
      · exact h.thenEnterPositioning _
  · split
    · exact RingKept.thenChangeState (h.update (by rfl)) _
    · exact h.thenEnterPositioning _
  · exact h

theorem RingKept.thenAfterComplete (h : RingKept s t) (dir : Dir) : RingKept s (afterComplete dir t) := by
  unfold afterComplete
  split
  · exact h.thenPark
  · split
    · exact h.thenPark
    · exact h.thenStartScan _

theorem RingKept.thenCompleteSet (h : RingKept s t) {i : SetId} (hi : t.edge.accumulating = some i) (e : ScanEdges) :
    RingKept s (completeSet i e t) := by
  have edged : Steady t (t.onSet i (fun a => { a with edges := some e })) := (Steady.refl t).thenOnSet i _ rfl
  have kept : RingKept s (t.onSet i (fun a => { a with edges := some e })) := h.thenOnSet i _ rfl
  have occupied {u : State} (k : Steady t u) : (u.edge.get i).state ≠ .free := by
    rw [k.setState, EdgeUnit.state_of_accumulating hi]
    simp
  unfold completeSet
  dsimp only
  split
  · exact kept.thenHandOver i (occupied edged)
  · exact (kept.thenUpdateMapping _ _ _).thenHandOver i (occupied (edged.thenUpdateMapping _ _ _))

theorem RingKept.thenEndComplete (h : RingKept s t) {i : SetId} (hi : t.edge.accumulating = some i) (c : CurScan)
    (e : ScanEdges) : RingKept s (endComplete i c e t) := by
  have counted : RingKept s (countComplete (reportScanEnd .complete e.width (completeSet i e t))) :=
    ((h.thenCompleteSet hi e).thenReportScanEnd _ _).update rfl
  exact (counted.thenApplyScanEnd _).thenAfterComplete _

theorem RingKept.thenScanEndEvent (h : RingKept s t) : RingKept s (scanEndEvent t) := by
  unfold scanEndEvent
  split
  · split
    · exact h.thenEndComplete ‹_› _ _
    · exact (((h.thenBreakCause _ _ _).thenFreeAccumulating.thenReportScanEnd _ _).thenApplyScanEnd _).thenPark
  · exact h

theorem RingKept.thenTraverseBreak (h : RingKept s t) : RingKept s (traverseBreak t) := by
  unfold traverseBreak
  split
  · split
    · exact (h.thenEndScan _).thenPark
    · exact h
  · exact h.thenPark
  · exact h.thenPark
  · exact RingKept.thenPark (h.update (by rfl))
  · exact h

theorem RingKept.thenTraverseRecovered (h : RingKept s t) : RingKept s (traverseRecovered t) := by
  unfold traverseRecovered
  split
  · exact h.thenIdleStart _
  · exact h.thenIdleStart _
  · exact h

theorem RingKept.thenTellTraverse (h : RingKept s t) (e : TravEvent) : RingKept s (tellTraverse e t) := by
  cases e
  · exact h
  · exact h.thenTraverseBreak
  · exact h.thenTraverseRecovered

theorem RingKept.thenTakeCause (h : RingKept s t) (cause : Cause) (scan : Nat) (pos : Option Nat) :
    RingKept s (takeCause cause scan pos t) :=
  (h.thenBreakCause _ _ _).thenTellTraverse _

theorem RingKept.thenLineEdge (h : RingKept s t) (l : Line) : RingKept s (lineEdge l t) :=
  (h.thenEdgeEffect l).thenTellTraverse _

theorem RingKept.thenEnableAtCommit (h : RingKept s t) (l : Line) (old : Setup) :
    RingKept s (enableAtCommit l old t) := by
  have reset := h.thenResetLine l old
  unfold enableAtCommit
  dsimp only
  split
  · split
    · exact (reset.thenTakeLevel l).thenLineEdge l
    · exact reset.thenCompareLevel l
  · exact reset

theorem RingKept.thenTakeResult (h : RingKept s t) : RingKept s (takeResult t) := by
  unfold takeResult
  split
  · split
    · exact h.thenResume
    · unfold afterFailure
      split
      · exact (h.thenIssue _).thenEnterFault _
      · split
        · exact h.thenStartStandardization
        · exact h.thenResume
  · exact h

/-! ### Samples -/

theorem RingKept.thenMarkSlipped (h : RingKept s t) : RingKept s (markSlipped t) := by
  unfold markSlipped
  split
  · dsimp only
    split
    · rename_i i _
      refine h.thenSet i { t.edge.get i with slipped := true } (fun m hm => .inl ?_) rfl rfl rfl le_rfl fun _ => rfl
      exact AccSet.mem_holds.2 (AccSet.mem_holds.1 hm)
    · exact h.update rfl
  · exact h

theorem RingKept.thenReckon (h : RingKept s t) (f : SampleFrame) : RingKept s (reckon f t) := by
  have placed : RingKept s (t.setPos (reckoned f t)) := h.update rfl
  unfold reckon
  dsimp only
  split
  · rename_i mark _
    have moved : RingKept s (if (t.setPos (reckoned f t)).setup.active.positionMode = .reckoned then
        (t.setPos (reckoned f t)).setPos mark else t.setPos (reckoned f t)) := by
      split
      · exact placed.update rfl
      · exact placed
    unfold checkMark
    dsimp only
    split
    · exact moved
    · exact ((moved.thenCount _ _).thenRaiseAlarm _ _ _ _).thenMarkSlipped
  · exact placed

theorem RingKept.thenScanSample (h : RingKept s t) (f : SampleFrame) : RingKept s (scanSample f t) := by
  unfold scanSample
  split
  · split
    · exact h.thenCount _ _
    · split
      · unfold airSampleStep
        split
        · exact (h.thenTrack _).thenTakeCause _ _ _
        · exact h.thenTrack _
      · exact h.thenSheetSample _ _ _
  · exact h

theorem RingKept.thenDwellSample (h : RingKept s t) (f : SampleFrame) : RingKept s (dwellSample f t) := by
  have dwelt (d : DwellAcc) : RingKept s (t.setDwell d) := h.update rfl
  unfold dwellSample
  split
  · exact h.thenCount _ _
  · split
    · unfold dwellAir
      dsimp only
      split
      · exact (dwelt _).thenTakeCause _ _ _
      · exact dwelt _
    · unfold dwellSheet
      dsimp only
      split
      · exact (dwelt _).thenNotify _
      · exact dwelt _

theorem RingKept.thenStdSample (h : RingKept s t) (f : SampleFrame) : RingKept s (stdSample f t) := by
  unfold stdSample
  split
  · unfold stdAdvance
    split
    · split
      · exact RingKept.thenIssue (h.update (by rfl)) _
      · exact (h.thenConcludeStandardization _).thenTakeResult
    · exact h.update rfl
  · exact h

theorem RingKept.thenSampleRecord (h : RingKept s t) (f : SampleFrame) : RingKept s (sampleRecord f t) := by
  have seen : RingKept s (frameSeen t) := h.update rfl
  have checked : RingKept s (takeSeq f (frameSeen t)) := by
    unfold takeSeq
    dsimp only
    split
    · exact seen.update rfl
    · exact RingKept.thenCount (seen.update (by rfl)) _ _
  unfold sampleRecord
  dsimp only
  split
  · exact seen
  · unfold deliver
    split
    · exact (checked.thenReckon f).thenScanSample f
    · exact (checked.thenReckon f).thenStdSample f
    · exact (checked.thenReckon f).thenDwellSample f
    all_goals exact checked.thenReckon f

end Sys2Proof.Machine
end

section
/-! ## Proofs: every step keeps the ring sound (R92 to R95) -/

namespace Sys2Proof.Machine

variable {s t : State}

/-! ### The order of the sets' scans -/

/-- R92: no set holds a scan newer than the last one started, and the FINALIZING set holds the older scan. -/
abbrev SetsOrdered (s : State) : Prop :=
  (∀ i, ∀ m ∈ (s.edge.get i).holds, m ≤ s.trav.scanNumber) ∧
    ∀ i, (s.edge.get i).state = .finalizing →
      ∀ m ∈ (s.edge.get i).holds, ∀ n ∈ (s.edge.get i.other).holds, m < n

theorem setsNewer_iff (s : State) : SetsNewer s ↔
    (∀ n ∈ s.ring.scans, n ≤ s.trav.scanNumber ∧ ∀ i, ∀ m ∈ (s.edge.get i).holds, n < m) ∧ SetsOrdered s := by
  constructor
  · rintro ⟨hring, hx, hy, hxy⟩
    refine ⟨fun n hn => ?_, EdgeUnit.forall_get (p := fun a => ∀ m ∈ a.holds, m ≤ s.trav.scanNumber) .x hx hy, ?_⟩
    · obtain ⟨hle, hnx, hny⟩ := hring n hn
      exact ⟨hle, EdgeUnit.forall_get (p := fun a => ∀ m ∈ a.holds, n < m) .x hnx hny⟩
    · rintro (_ | _) hf m hm n hn
      · exact (hxy m hm n hn).1 hf
      · exact (hxy n hn m hm).2 hf
  · rintro ⟨hring, hle, hf⟩
    exact ⟨fun n hn => ⟨(hring n hn).1, (hring n hn).2 .x, (hring n hn).2 .y⟩, hle .x, hle .y,
      fun m hm n hn => ⟨fun e => hf .x e m hm n hn, fun e => hf .y e n hn m hm⟩⟩

theorem SetsOrdered.steady (k : Steady s t) (h : SetsOrdered s) : SetsOrdered t := by
  simpa only [SetsOrdered, AccSet.holds_of_view (k.view _), k.setState, k.scanNumber] using h

theorem SetsOrdered.of_eq (h : SetsOrdered s) (hn : t.trav.scanNumber = s.trav.scanNumber)
    (he : ∀ i, t.edge.get i = s.edge.get i) : SetsOrdered t := by
  simpa only [SetsOrdered, hn, he] using h

/-- A set that ends as FREE leaves the other in order, whether or not that one begins finalizing. -/
theorem SetsOrdered.freed {i : SetId} (h : SetsOrdered s) (hn : t.trav.scanNumber = s.trav.scanNumber)
    (hi : t.edge.get i = AccSet.free) (ho : (t.edge.get i.other).holds = (s.edge.get i.other).holds) :
    SetsOrdered t := by
  refine ⟨EdgeUnit.forall_get (p := fun a => ∀ m ∈ a.holds, m ≤ t.trav.scanNumber) i ?_ ?_, fun j _ m hm n hk => ?_⟩
  · simp [hi, AccSet.holds_free]
  · rw [ho, hn]
    exact h.1 i.other
  · rcases SetId.eq_or_other i j with rfl | rfl
    · simp [hi, AccSet.holds_free] at hm
    · simp [hi, AccSet.holds_free] at hk

theorem SetsOrdered.dropped (h : SetsOrdered s) : SetsOrdered (droppedScan s) := by
  cases hi : s.edge.accumulating with
  | none => exact h.of_eq rfl fun j => by cases j <;> simp [droppedScan, gatheringFreed, hi, EdgeUnit.get]
  | some i =>
    have e : (droppedScan s).edge = { s.edge.set i AccSet.free with tracker := none } := by
      simp only [droppedScan, gatheringFreed, hi]
    refine h.freed (i := i) rfl ?_ ?_
    · rw [e, EdgeUnit.get_tracker, EdgeUnit.get_set_self]
    · rw [e, EdgeUnit.get_tracker, EdgeUnit.get_set_other]

theorem SetsOrdered.faulted (h : SetsOrdered s) : SetsOrdered (faultedFrame s) := by
  cases hc : s.trav.cur with
  | none => exact h.of_eq rfl fun _ => by simp [faultedFrame, hc]
  | some c => exact h.dropped.of_eq rfl fun _ => by simp [faultedFrame, droppedScan, hc]

theorem SetsOrdered.begun {i : SetId} (dir : Dir) (h : SetsOrdered s) : SetsOrdered (begunScan i dir s) := by
  have claimed : (claimedSet (s.trav.scanNumber + 1) dir s).holds = some (s.trav.scanNumber + 1) := rfl
  refine ⟨EdgeUnit.forall_get (p := fun a => ∀ m ∈ a.holds, m ≤ s.trav.scanNumber + 1) i ?_ ?_, ?_⟩
  · simp [begunScan_get, claimed]
  · rw [begunScan_get_other]
    exact fun m hm => (h.1 _ m hm).trans (Nat.le_succ _)
  · intro j hf m hm n hk
    rcases SetId.eq_or_other i j with rfl | rfl
    · rw [begunScan_get] at hf
      cases hf
    · rw [begunScan_get_other] at hm
      rw [SetId.other_other, begunScan_get, claimed] at hk
      have := h.1 _ m hm
      cases hk
      omega

/-- R76, R77: the set handed on waits for an older one, or finalizes while the other is FREE. -/
theorem SetsOrdered.handed {i : SetId} (h : SetsOrdered s) (hscan : ScanMatches s) (hfin : FinalizerMatches s)
    (hs : s.trav.state = .scanning) (hi : s.edge.accumulating = some i) : SetsOrdered (handedScan i s) := by
  have ha := EdgeUnit.state_of_accumulating hi
  have ho := (hscan.handed hs hi).2.2 i.other
  rw [handedScan_get_other] at ho
  rw [finalizerMatches_iff _ i] at hfin
  have holds : ∀ m ∈ ((handedScan i s).edge.get i).holds, m ∈ (s.edge.get i).holds := by
    intro m hm
    have scan : ((handedScan i s).edge.get i).scan = (s.edge.get i).scan := by cases i <;> rfl
    exact AccSet.mem_holds.2 ⟨by simp [ha], scan ▸ (AccSet.mem_holds.1 hm).2⟩
  refine ⟨EdgeUnit.forall_get (p := fun a => ∀ m ∈ a.holds, m ≤ s.trav.scanNumber) i ?_ ?_, ?_⟩
  · exact fun m hm => h.1 i m (holds m hm)
  · rw [handedScan_get_other]
    exact h.1 i.other
  · intro j hf m hm n hk
    rcases SetId.eq_or_other i j with rfl | rfl
    · rw [handedScan_get] at hf
      rw [handedScan_get_other] at hk
      obtain ⟨busy, _⟩ := AccSet.mem_holds.1 hk
      cases k : (s.edge.get j.other).state <;> simp_all
    · rw [handedScan_get_other] at hf hm
      rw [SetId.other_other] at hk
      exact h.2 i.other hf m hm n (by rw [SetId.other_other]; exact holds n hk)

theorem SetsOrdered.passed {i : SetId} (h : SetsOrdered s) : SetsOrdered (passOn i s) := by
  refine h.freed (i := i) (by rw [passOn_trav]) (passOn_get i s) ?_
  rw [passOn_get_other]
  split
  · rename_i hw
    simp [AccSet.holds, hw]
  · rfl

theorem SetsOrdered.slipped (h : SetsOrdered s) : SetsOrdered (markSlipped s) := by
  unfold markSlipped
  split
  · dsimp only
    split
    · rename_i i _
      have same (j : SetId) : (((s.edge.set i { s.edge.get i with slipped := true }).get j).holds =
          (s.edge.get j).holds) ∧ ((s.edge.set i { s.edge.get i with slipped := true }).get j).state =
          (s.edge.get j).state := by cases i <;> cases j <;> exact ⟨rfl, rfl⟩
      simp only [SetsOrdered, State.onSet_edge, State.onTrav_edge, (same _).1, (same _).2]
      exact h
    · exact h
  · exact h

/-- The order of the sets' scans, with the rules of the scan in progress and of the finalizer that it rests on. -/
theorem setsRules : FrameRules (fun s => ScanMatches s ∧ FinalizerMatches s ∧ SetsOrdered s)
    (fun s => ScanOver s ∧ FinalizerMatches s ∧ SetsOrdered s) (fun _ => True) (fun _ => True) where
  held_steady k h := ⟨h.1.steady k, h.2.1.steady k, h.2.2.steady k⟩
  rest_steady k _ h := ⟨h.1.steady k, h.2.1.steady k, h.2.2.steady k⟩
  clear_permits _ := trivial
  clear_same _ _ := trivial
  rest_held h hs _ _ := ⟨h.1.ended hs, h.2⟩
  moved h ha hb := ⟨scanRules.moved h.1 ha hb, h.2⟩
  flown x h := ⟨scanRules.flown x h.1, h.2⟩
  dropped h hs := ⟨h.1.dropped hs, h.2.1.dropped, h.2.2.dropped⟩
  stray _ _ _ := trivial
  faulted h := ⟨h.1.faulted, h.2.1.faulted, h.2.2.faulted⟩
  rest_faulted h := ⟨h.1.faulted, h.2.1.faulted, h.2.2.faulted⟩
  begun dir h hi _ := ⟨h.1.begun dir, h.2.1.begun dir hi, h.2.2.begun dir⟩
  handed h hs hi := ⟨h.1.handed hs hi, h.2.1.handed hi, h.2.2.handed h.1 h.2.1 hs hi⟩
  passed h hi := ⟨h.1.passed hi, h.2.1.passed hi, h.2.2.passed⟩
  placed _ h := h
  fits _ := trivial
  rest_since _ h := h
  repaired h hs := ⟨scanRules.repaired h.1 hs, h.2⟩
  concluded {s fails since} h hs hf hn := ⟨scanRules.concluded (fails := fails) h.1 hs hf hn, h.2⟩
  failed h hs := ⟨scanRules.failed h.1 hs, h.2⟩
  slipped h := ⟨h.1.slipped, h.2.1.slipped, h.2.2.slipped⟩
  reset brk tail lines := ⟨scanRules.reset brk tail lines, finalizerRules.reset brk tail lines,
    by rintro (_ | _) <;> simp [State.afterReset, EdgeUnit.get, AccSet.holds_free],
    by rintro (_ | _) <;> simp [State.afterReset, EdgeUnit.get, AccSet.free]⟩

/-! ### The ring, the transfers and the sets' scans -/

/-- What `RingSound` says beyond the order of the sets: the ring is sound, a port pins exactly while its engine is in a
transfer, and the ring's scans are older than those of the sets. -/
structure RingHeld (s : State) : Prop where
  ring      : s.ring.Sound
  transfers : ∀ p, (s.ports.get p).inTransfer = (s.ring.pins.get p).isSome
  older     : ∀ n ∈ s.ring.scans, n ≤ s.trav.scanNumber ∧ ∀ i, ∀ m ∈ (s.edge.get i).holds, n < m

theorem pinMatches_iff (s : State) (p : PortId) : PinMatches s p ↔
    (s.ports.get p).inTransfer = (s.ring.pins.get p).isSome ∧ ∀ n, s.ring.pins.get p = some n → n ∈ s.ring.scans := by
  unfold PinMatches
  cases h : s.ring.pins.get p <;> simp

theorem ringSound_iff (s : State) : RingSound s ↔ RingHeld s ∧ SetsOrdered s := by
  simp only [RingSound, setsNewer_iff, pinMatches_iff]
  constructor
  · rintro ⟨bounded, ordered, ⟨older, sets⟩, marked, ⟨t0, k0⟩, ⟨t1, k1⟩, t2, k2⟩
    refine ⟨⟨⟨bounded, ordered, marked, ?_⟩, ?_, older⟩, sets⟩
    · rintro (_ | _ | _)
      exacts [k0, k1, k2]
    · rintro (_ | _ | _)
      exacts [t0, t1, t2]
  · rintro ⟨⟨⟨bounded, ordered, marked, known⟩, transfers, older⟩, sets⟩
    exact ⟨bounded, ordered, ⟨older, sets⟩, marked, ⟨transfers .sp0, known .sp0⟩, ⟨transfers .sp1, known .sp1⟩,
      transfers .sp2, known .sp2⟩

theorem Port.inTransfer_of_engine {q q' : Port} (h : q'.engine = q.engine) : q'.inTransfer = q.inTransfer := by
  simp only [Port.inTransfer, h]

theorem RingHeld.kept (h : RingHeld s) (k : RingKept s t) : RingHeld t where
  ring := h.ring.of_eq k.entries k.pins
  transfers p := by rw [Port.inTransfer_of_engine (k.engine p), h.transfers, k.pins]
  older n hn := by
    have scans : t.ring.scans = s.ring.scans := congrArg (List.map _) k.entries
    obtain ⟨hle, hlt⟩ := h.older n (scans ▸ hn)
    exact ⟨hle.trans k.number, fun i m hm => (k.sets i m hm).elim (hlt i m) fun hm => hle.trans_lt hm⟩

/-- R94: the engine of one port and the ring change together. -/
theorem RingHeld.onPort (h : RingHeld s) (p : PortId) (f : Port → Port) {r : Ring} (sound : r.Sound)
    (scans : r.scans ⊆ s.ring.scans) (pin : (f (s.ports.get p)).inTransfer = (r.pins.get p).isSome)
    (others : ∀ q ≠ p, r.pins.get q = s.ring.pins.get q) : RingHeld { s.onPort p f with ring := r } where
  ring := sound
  transfers q := by
    by_cases e : q = p
    · subst e
      simpa using pin
    · show ((s.onPort p f).ports.get q).inTransfer = (r.pins.get q).isSome
      rw [State.onPort_ports, PerPort.get_set_other _ _ _ _ e, others q e, h.transfers]
  older n hn := h.older n (scans hn)

/-! ### Finalizations -/

theorem passOn_ring (i : SetId) (s : State) : (passOn i s).ring = s.ring := by rw [passOn_eq]

/-- R80: the entry of the set that ends finalizing is newer than those of the ring, and older than the other set's
scan. -/
theorem ringHeld_finalized {i : SetId} {e : RingEntry} (h : RingHeld s) (ho : SetsOrdered s)
    (hi : s.edge.finalizing = some i) (unmarked : e.marked = false) (he : e.header.scan = (s.edge.get i).scan) :
    RingHeld (passOn i { s with ring := s.ring.add e }) := by
  have hf := EdgeUnit.state_of_finalizing hi
  have held : e.header.scan ∈ (s.edge.get i).holds := AccSet.mem_holds.2 ⟨by simp [hf], he.symm⟩
  have others : ∀ j, ∀ m ∈ ((passOn i { s with ring := s.ring.add e }).edge.get j).holds,
      j = i.other ∧ m ∈ (s.edge.get i.other).holds := by
    intro j m hm
    rcases SetId.eq_or_other i j with rfl | rfl
    · rw [passOn_get] at hm
      cases hm
    · refine ⟨rfl, ?_⟩
      rw [passOn_get_other] at hm
      split at hm
      · rename_i hw
        exact AccSet.mem_holds.2 ⟨by rw [hw]; simp, (AccSet.mem_holds.1 hm).2⟩
      · exact hm
  refine ⟨?_, fun p => ?_, fun n hn => ?_⟩
  · rw [passOn_ring]
    exact h.ring.add unmarked fun n hn => (h.older n hn).2 i _ held
  · rw [passOn_ports, passOn_ring]
    exact h.transfers p
  · rw [passOn_ring] at hn
    rw [passOn_trav]
    rcases Ring.mem_add_scans hn with hn | rfl
    · obtain ⟨hle, hlt⟩ := h.older n hn
      refine ⟨hle, fun j m hm => ?_⟩
      exact hlt _ m (others j m hm).2
    · refine ⟨ho.1 i _ held, fun j m hm => ?_⟩
      exact ho.2 i hf _ held m (others j m hm).2

theorem ringHeld_finalizeSet {i : SetId} (h : RingHeld s) (ho : SetsOrdered s) (hi : s.edge.finalizing = some i) :
    RingHeld (finalizeSet i s) := by
  have joined := ringHeld_finalized (e := formEntry (s.edge.get i) s.ring s.mon.state) h ho hi rfl rfl
  unfold finalizeSet
  dsimp only
  generalize passOn i _ = u at joined
  refine (joined.kept ?_).kept ((RingKept.refl _).thenNotify _)
  split
  · exact (RingKept.refl u).thenStartScan _
  · exact .refl u

/-! ### Requests -/

/-- R165: what a request does to the ring: READ PROFILE pins an entry and gives a transfer, FLUSH PROFILES flushes, and
every other leaves the ring and the engines. -/
inductive RingAnswer (p : PortId) (s : State) : State × Answer → Prop
  | kept {t : State} {a : Answer} : RingKept s t → a.transfer = false → RingAnswer p s (t, a)
  | pinned {e : RingEntry} {a : Answer} : e ∈ s.ring.entries → a.transfer = true →
    RingAnswer p s ({ s with ring := { s.ring with pins := s.ring.pins.set p (some e.header.scan) } }, a)
  | flushed {a : Answer} : a.transfer = false → RingAnswer p s ({ s with ring := s.ring.flushed }, a)

theorem RingAnswer.of_same {p : PortId} {a : Answer} (h : a.transfer = false) : RingAnswer p s (s, a) :=
  .kept (.refl s) h

theorem mem_of_selectEntry {l : List RingEntry} {sel : ScanSelector} {e : RingEntry}
    (h : selectEntry l sel = some e) : e ∈ l := by
  cases sel with
  | latest => exact List.mem_of_getLast? h
  | number n => exact List.mem_of_find?_eq_some h

theorem ringAnswer_readProfile (p : PortId) (tag : BitVec 8) (sel : ScanSelector) (kinds forms : BitVec 8)
    (first last : BitVec 16) (s : State) : RingAnswer p s (takeReadProfile p tag sel kinds forms first last s) := by
  unfold takeReadProfile
  dsimp only
  split
  · exact .of_same rfl
  · split
    · exact .of_same rfl
    · split
      · exact .of_same rfl
      · exact .pinned (List.mem_filter.1 (mem_of_selectEntry ‹_›)).1 rfl

theorem RingKept.thenStartEffect (h : RingKept s t) : RingKept s (startEffect t) := by
  unfold startEffect
  split
  · split
    · exact h.thenIdleStart _
    · exact h
  · exact RingKept.thenEnterPositioning (h.update (by rfl)) _
  · exact h

theorem RingKept.thenStopEffect (h : RingKept s t) : RingKept s (stopEffect t) := by
  unfold stopEffect
  split
  · exact (h.thenEndScan _).thenPark
  · exact h.thenPark
  · exact h.thenPark
  · exact RingKept.thenPark (h.update (by rfl))
  · exact h

theorem RingKept.thenDwellEffect (h : RingKept s t) (same : Bool) : RingKept s (dwellEffect same t) := by
  unfold dwellEffect
  split
  · split
    · exact h.thenIdleStart _
    · exact h
  · dsimp only
    split
    · exact (h.thenEndScan _).thenEnterPositioning _
    · exact (h.thenEndScan _).thenPark
  · exact h.thenEnterPositioning _
  · exact h.thenEnterPositioning _
  · split
    · exact h
    · exact RingKept.thenEnterPositioning (h.update (by rfl)) _
  · exact h

theorem RingKept.thenStandardizeEffect (h : RingKept s t) : RingKept s (standardizeEffect t) := by
  unfold standardizeEffect
  split
  · split
    · exact h.thenEnterStandardizing
    · exact h.thenPark
  · exact h

theorem ringAnswer_writeSetup (p : PortId) (item : BitVec 8) (value : Offered) (s : State) :
    RingAnswer p s (takeWriteSetup p item value s) := by
  unfold takeWriteSetup
  split
  · exact .of_same rfl
  · split
    · exact .of_same rfl
    · exact .of_same rfl
    · unfold stage
      dsimp only
      split
      · exact .of_same rfl
      · exact .kept (.of_view rfl) (by split <;> rfl)

theorem ringAnswer_commitSetup (p : PortId) (target : Target) (s : State) :
    RingAnswer p s (takeCommitSetup p target s) := by
  unfold takeCommitSetup
  dsimp only
  split
  · exact .of_same rfl
  · split
    · exact .of_same rfl
    · split
      · exact .of_same rfl
      · have taken := (RingKept.refl s).thenCommitTaken p target
        exact .kept ((taken.thenEnableAtCommit _ _).thenEnableAtCommit _ _) rfl

theorem readItem_transfer (p : PortId) (i : Item) (copy : BitVec 8) (s : State) :
    (readItem p i copy s).transfer = false := by
  unfold readItem
  split
  · rfl
  · split
    · split <;> rfl
    · split
      · split <;> rfl
      · rfl

theorem ringAnswer_carryOut (p : PortId) (tag : BitVec 8) (r : Request) (s : State) :
    RingAnswer p s (carryOut p tag r s) := by
  have same := RingKept.refl s
  cases r <;> dsimp only [carryOut]
  case scanStart =>
    unfold takeScanStart
    split
    · exact .kept (RingKept.thenStartEffect (same.update (by rfl))) rfl
    · exact .of_same rfl
  case scanStop => exact .kept (RingKept.thenStopEffect (same.update (by rfl))) rfl
  case dwellAt => exact .kept (RingKept.thenDwellEffect (same.update (by rfl)) _) (by split <;> rfl)
  case standardizeNow => exact .kept (RingKept.thenStandardizeEffect (same.update (by rfl))) rfl
  case clearFault =>
    unfold takeClearFault
    split
    · exact .kept (RingKept.thenPark (same.update (by rfl))) rfl
    · exact .of_same rfl
  case readProfile => exact ringAnswer_readProfile _ _ _ _ _ _ _ _
  case flushProfiles => exact .flushed rfl
  case resumeSheet =>
    unfold takeResumeSheet
    split
    · exact .of_same rfl
    · split
      · exact .of_same rfl
      · exact .kept (same.thenEnterRecovery _).thenTraverseRecovered rfl
  case acknowledgeAlarm =>
    unfold takeAcknowledge
    split
    · exact .of_same rfl
    · split
      · exact .kept (.of_view rfl) rfl
      · exact .of_same rfl
  case writeSetup => exact ringAnswer_writeSetup _ _ _ _
  case readSetup =>
    unfold takeReadSetup
    split
    · exact .of_same rfl
    · exact .of_same (readItem_transfer _ _ _ _)
  case discardStaging => exact .kept (.of_view rfl) rfl
  case commitSetup => exact ringAnswer_commitSetup _ _ _
  case subscribe =>
    unfold takeSubscribe
    split
    · exact .of_same rfl
    · exact .kept (same.thenOnPort p _ rfl) rfl
  case readTallies =>
    unfold takeReadTallies
    dsimp only
    split
    · exact .of_same rfl
    · exact .kept (.of_view rfl) rfl
  case clearTallies => exact .kept (.of_view rfl) rfl
  all_goals exact .of_same rfl

/-! ### The engine and the end of a sending -/

theorem Port.inTransfer_idle {q : Port} (h : q.engine = none) : q.inTransfer = false := by
  simp [Port.inTransfer, h]

theorem Port.engine_releaseHold (q : Port) : q.releaseHold.engine = q.engine := by
  unfold Port.releaseHold
  split <;> rfl

theorem Port.engine_holdAtArrival (a : Setup) (q : Port) : (q.holdAtArrival a).engine = q.engine := by
  unfold Port.holdAtArrival
  split <;> rfl

/-- R165: an engine that has been idle holds the answer of a request. -/
theorem RingHeld.answered {p : PortId} {out : State × Answer} (h : RingHeld s) (idle : s.ring.pins.get p = none)
    (k : RingAnswer p s out) (tag code : BitVec 8) :
    RingHeld (out.1.onPort p (fun q => { q with engine := some (answerJob tag code out.2) })) := by
  let f (a : Answer) (q : Port) : Port := { q with engine := some (answerJob tag code a) }
  cases k with
  | kept k ha =>
    have held := h.kept k
    exact held.onPort p (f _) held.ring (List.Subset.refl _) (by rw [k.pins, idle]; exact ha) fun _ _ => rfl
  | pinned he ha =>
    exact h.onPort p (f _) (h.ring.pin idle he) (List.Subset.refl _) (by rw [PerPort.get_set_self]; exact ha)
      fun q hq => PerPort.get_set_other _ _ _ _ hq
  | flushed ha =>
    have sub : s.ring.flushed.scans ⊆ s.ring.scans := by
      rw [Ring.flushed_scans]
      exact (List.filter_sublist.map _).subset
    refine h.onPort p (f _) h.ring.flushed sub ?_ fun _ _ => rfl
    rw [show s.ring.flushed.pins = s.ring.pins from rfl, idle]
    exact ha

theorem RingHeld.takeRequest (h : RingHeld s) {p : PortId} (idle : (s.ports.get p).engine = none) (r : Queued) :
    RingHeld (takeRequest p r s) := by
  have released : RingKept s (s.onPort p Port.releaseHold) :=
    (RingKept.refl s).thenOnPort p _ (Port.engine_releaseHold _)
  have unpinned : s.ring.pins.get p = none := by
    simpa [Port.inTransfer_idle idle] using h.transfers p
  exact ((h.kept released).answered unpinned (ringAnswer_carryOut p r.tag r.req _) _ _).kept (.of_view rfl)

theorem RingHeld.pump (h : RingHeld s) (p : PortId) : RingHeld (pump p s) := by
  unfold Machine.pump
  split
  · rename_i r rest idle _
    exact (h.kept ((RingKept.refl s).thenOnPort p _ rfl)).takeRequest (by simpa using idle) r
  · exact h

theorem RingHeld.arrive (h : RingHeld s) (p : PortId) (r : Queued) : RingHeld (arrive p r s) := by
  unfold Machine.arrive
  dsimp only
  split
  · exact h.takeRequest (by tauto) r
  · split
    · have queued : RingKept s (enqueue p r s) := (RingKept.refl s).thenOnPort p _ (Port.engine_holdAtArrival _ _)
      exact (h.kept queued).pump p
    · refine RingHeld.pump (h.kept ?_) p
      unfold refuseFull
      split
      · exact .refl s
      · have refused (l : List Response) : RingKept s (s.onPort p (fun q => { q with refusals := q.refusals ++ l })) :=
          (RingKept.refl s).thenOnPort p _ rfl
        exact (refused _).update rfl

theorem RingHeld.requestArrives (h : RingHeld s) (p : PortId) (r : Queued) : RingHeld (requestArrives p r s) := by
  unfold Machine.requestArrives
  split
  · exact (h.arrive p r).kept (RingKept.refl _).thenSettle
  · exact h

theorem Ring.release_scans (r : Ring) (p : PortId) : (r.release p).scans ⊆ r.scans :=
  (Ring.scans_sublist List.filter_sublist).subset

/-- R94: an engine that becomes idle with its pin released. -/
theorem RingHeld.releasePin (h : RingHeld s) (p : PortId) (f : Port → Port)
    (idle : (f (s.ports.get p)).engine = none) : RingHeld (releasePin p (s.onPort p f)) := by
  refine h.onPort p f (h.ring.release p) (Ring.release_scans _ p) ?_ fun q hq => PerPort.get_set_other _ _ _ _ hq
  have unpinned : (s.ring.release p).pins.get p = none := PerPort.get_set_self _ _ _
  exact (Port.inTransfer_idle idle).trans (by simp [unpinned])

/-- R167: a frame that is not the engine's leaves the engine. -/
theorem Port.engine_sent {x : Sending} (hx : x.source ≠ .engine) (q : Port) : (q.sent x).engine = q.engine := by
  unfold Port.sent
  split <;> first | rfl | exact absurd ‹_› hx

/-- R98: the last frame of a transfer idles the engine. -/
theorem Port.engine_engineSent {q : Port} (h : q.transferEnds = true) : q.engineSent.engine = none := by
  unfold Port.transferEnds at h
  unfold Port.engineSent
  split at h <;> simp_all

/-- R98: a frame that is not the last of a transfer leaves the engine in the transfer or out of it. -/
theorem Port.inTransfer_engineSent {q : Port} (h : q.transferEnds = false) :
    q.engineSent.inTransfer = q.inTransfer := by
  unfold Port.transferEnds at h
  unfold Port.engineSent
  split at h
  · rename_i j hj
    by_cases last : j.frames.drop 1 = []
    · simp_all [Port.inTransfer]
    · simp only [Port.inTransfer, hj, last, if_false]
  · simp_all

theorem RingHeld.frameDone (h : RingHeld s) (p : PortId) (x : Sending) : RingHeld (frameDone p x s) := by
  unfold Machine.frameDone
  dsimp only
  refine RingHeld.pump ?_ p
  by_cases hx : x.source = .engine
  · have sent (q : Port) : ({ q.sent x with sending := none } : Port).engine = q.engineSent.engine := by
      simp only [Port.sent, hx]
    cases ends : (s.ports.get p).transferEnds with
    | true =>
      simp only [hx, decide_true, Bool.true_and, if_true]
      exact h.releasePin p _ ((sent _).trans (Port.engine_engineSent ends))
    | false =>
      simp only [hx, decide_true, Bool.true_and, Bool.false_eq_true, if_false]
      refine h.onPort p (fun q => { q.sent x with sending := none }) h.ring (List.Subset.refl _) ?_ fun _ _ => rfl
      rw [Port.inTransfer_of_engine (sent _), Port.inTransfer_engineSent ends]
      exact h.transfers p
  · simp only [hx, decide_false, Bool.false_and, Bool.false_eq_true, if_false]
    exact h.kept ((RingKept.refl s).thenOnPort p _ (Port.engine_sent hx _))

theorem RingHeld.resetPort (h : RingHeld s) (p : PortId) (answer : Option (BitVec 8)) (sending : Option Sending) :
    RingHeld (resetPort p answer sending s) := by
  have released : RingHeld (Machine.releasePin p (s.onPort p (Port.resetState answer sending))) :=
    h.releasePin p _ rfl
  exact released.kept (.of_view rfl)

/-! ### Whole commands and steps -/

theorem ringHeld_afterReset (brk tail : Bool) (lines : PerPort Bool) : RingHeld (State.afterReset brk tail lines) where
  ring := ⟨Nat.zero_le _, .nil, by simp [State.afterReset],
    by rintro (_ | _ | _) <;> simp [State.afterReset, PerPort.get]⟩
  transfers := by rintro (_ | _ | _) <;> rfl
  older := by simp [State.afterReset, Ring.scans]

theorem RingHeld.exec (h : RingHeld s) (ho : SetsOrdered s) (c : Instr) (ht : exec c s = .next t) : RingHeld t := by
  have same := RingKept.refl s
  have next {u v : State} (h : (Host.Outcome.next u : Answered) = .next v) (hu : RingHeld u) : RingHeld v := by
    cases h
    exact hu
  have kept {u v : State} (e : (Host.Outcome.next u : Answered) = .next v) (k : RingKept s u) : RingHeld v :=
    next e (h.kept k)
  have seen : RingKept s (frameSeen s) := same.update rfl
  cases c <;> dsimp only [Machine.exec] at ht
  case deviceReset => exact next ht ((ringHeld_afterReset s.mon.brk.level s.mon.tail.level _).kept (.of_view rfl))
  case sample f =>
    unfold execSample at ht
    split at ht
    · exact kept ht seen
    · exact kept ht (same.thenSampleRecord f).thenSettle
  case arrived number pos =>
    have noted : RingKept s (noteArrival pos (frameSeen s)) := seen.update rfl
    unfold execArrived at ht
    split at ht
    · refine kept ht (RingKept.thenSettle ?_)
      unfold arrival
      split
      · exact noted.thenArrivalAtPark
      · exact noted.thenArrivalAtTarget
      · exact noted.thenScanEndEvent
      · exact noted
    · exact kept ht seen
  case headStatus flags =>
    have linked : RingKept s ((frameSeen s).onLink (fun l => { l with headPresent := presentFlag flags })) :=
      seen.update rfl
    unfold execHeadStatus at ht
    dsimp only at ht
    split at ht
    · exact kept ht linked.thenHeadFault.thenSettle
    · exact kept ht linked
  case carriageFrameDiscarded => exact next ht h
  case carriageFrameUnknownType => exact kept ht seen
  case silenceTimerExpiry =>
    have down : RingKept s (linkDown s) := same.update rfl
    unfold execSilenceTimerExpiry at ht
    dsimp only at ht
    split at ht
    · exact next ht h
    · split at ht
      · exact kept ht (down.update rfl)
      · exact kept ht down.thenHeadFault.thenSettle
  case moveTimerExpiry =>
    unfold execMoveTimerExpiry at ht
    split at ht
    · exact next ht h
    · exact kept ht (RingKept.thenHeadFault (same.update (by rfl))).thenSettle
  case lineLevelChange l level =>
    have changed : RingKept s (s.onLine l (fun v => { v with level := level })) := same.update rfl
    unfold execLineLevelChange at ht
    split at ht
    · exact next ht h
    · refine kept ht (RingKept.thenSettle ?_)
      unfold lineChange
      dsimp only
      split
      · exact changed
      · split
        · exact (changed.thenTakeLevel l).thenLineEdge l
        · exact changed.thenCompareLevel l
  case lineDebounceExpiry l =>
    unfold execLineDebounceExpiry at ht
    split at ht
    · exact next ht h
    · refine kept ht (RingKept.thenSettle ?_)
      unfold debounced
      split
      · exact same.thenTakeLevel l
      · exact (same.thenTakeLevel l).thenLineEdge l
  case finalized =>
    unfold execFinalized at ht
    split at ht
    · exact next ht ((ringHeld_finalizeSet h ho ‹_›).kept (RingKept.refl _).thenSettle)
    · exact next ht h
  case hold p time =>
    unfold execHold at ht
    split at ht
    · exact kept ht (same.thenOnPort p _ rfl).thenSettle
    · exact next ht h
  case masterHoldExpiry p =>
    unfold execMasterHoldExpiry at ht
    dsimp only at ht
    split at ht
    · exact next ht h
    · exact kept ht (same.thenOnPort p _ (by unfold Port.masterExpires; split <;> rfl)).thenSettle
  case partHoldExpiry p =>
    unfold execPartHoldExpiry at ht
    split at ht
    · exact next ht h
    · exact kept ht (same.thenOnPort p _ (by unfold Port.renewHold; split <;> rfl)).thenSettle
  case portReset p tag =>
    unfold execPortReset at ht
    split at ht
    · exact next ht ((h.resetPort p _ _).kept (RingKept.refl _).thenSettle)
    · exact next ht h
  case serviceFrameDiscarded p =>
    unfold execServiceFrameDiscarded at ht
    split at ht
    · exact kept ht (same.thenCount _ _).thenSettle
    · exact next ht h
  case linkLineFall p =>
    unfold execLinkLineFall at ht
    split at ht
    · exact next ht ((h.kept (same.thenOnPort p _ rfl)).resetPort p _ _)
    · exact next ht h
  case linkLineRise p =>
    unfold execLinkLineRise at ht
    split at ht
    · exact next ht h
    · exact kept ht (same.thenOnPort p _ rfl).thenSettle
  case frameSent p =>
    unfold execFrameSent at ht
    split at ht
    · exact next ht ((h.frameDone p _).kept (RingKept.refl _).thenSettle)
    · exact next ht h
  all_goals exact next ht (h.requestArrives _ _)

theorem RingHeld.step (h : RingHeld s) (ho : SetsOrdered s) (ht : step s = .next t) : RingHeld t := by
  unfold Machine.step at ht
  split at ht
  · cases ht
    exact h
  · rename_i c rest _
    exact RingHeld.exec (s := { s with pending := rest }) (h.kept (.of_view rfl)) ho c ht

end Sys2Proof.Machine

open Sys2Proof Sys2Proof.Machine

/-- Settles O58: the order of the sets' scans is kept as the rules of the frame are, and the ring and the pins by what
each command does to them. -/
theorem everyStepKeepsTheRingSound : Obligations.EveryStepKeepsTheRingSound := by
  intro s t hscan hfin hring ht
  obtain ⟨held, ordered⟩ := (ringSound_iff s).1 hring
  have sets := (setsRules.step trivial trivial trivial ⟨⟨hscan, hfin, ordered⟩, fun _ => trivial⟩ ht).1
  exact (ringSound_iff t).2 ⟨held.step ordered ht, sets.2.2⟩
end

section
/-! ## Proofs: the end of a frame's sending (R94, R98, R165, R167, R171) -/

namespace Sys2Proof.Machine

variable {p : PortId} {s : State} {x : Sending}

/-! ### The engine's look at the inbound queue -/

/-- R165: an engine that holds a request, or finds none waiting, takes none. -/
theorem pump_waits (h : (s.ports.get p).engine.isSome = true ∨ (s.ports.get p).inbound = []) : pump p s = s := by
  unfold pump
  split
  · simp_all
  · rfl

theorem pump_takes {r : Queued} {rest : List Queued} (idle : (s.ports.get p).engine = none)
    (queued : (s.ports.get p).inbound = r :: rest) :
    pump p s = takeRequest p r (s.onPort p (fun q => { q with inbound := rest })) := by
  simp only [pump, idle, queued]

/-! ### The port and the ring at the end of a sending -/

/-- R94: the ring after a port's release, the pins of the three ports looked through one by one. -/
theorem release_eq (r : Ring) (p : PortId) : r.release p = { r with
    pins := r.pins.set p none
    entries := r.entries.filter fun e => !e.marked || [PortId.sp0, .sp1, .sp2].any fun x =>
      decide ((r.pins.set p none).get x = some e.header.scan) } := by
  simp only [Ring.release, Ring.pinned, List.any_cons, List.any_nil, Bool.or_false, Bool.or_assoc]
  rfl

theorem Port.inbound_sent (x : Sending) (q : Port) : (q.sent x).inbound = q.inbound := by
  unfold Port.sent
  split
  case h_4 =>
    unfold Port.engineSent
    split <;> rfl
  all_goals rfl

/-- R167: a frame of the engine's that is not its last. -/
theorem Port.engineSent_more {q : Port} {f g : TxFrame} {rest : List TxFrame} {moving : Bool}
    (h : q.engine = some ⟨f :: g :: rest, moving⟩) : q.engineSent = { q with engine := some ⟨g :: rest, moving⟩ } := by
  simp [Port.engineSent, h]

/-- R167: the engine's last frame. -/
theorem Port.engineSent_last {q : Port} {f : TxFrame} {moving : Bool} (h : q.engine = some ⟨[f], moving⟩) :
    q.engineSent = { q with engine := none } := by
  simp [Port.engineSent, h]

/-- R98: a transfer ends with its last frame. -/
theorem Port.transferEnds_eq {q : Port} {f : TxFrame} {rest : List TxFrame} {moving : Bool}
    (h : q.engine = some ⟨f :: rest, moving⟩) : q.transferEnds = (moving && decide (rest = [])) := by
  simp [Port.transferEnds, h]

/-! ### FRAME_SENT, by the list the frame came from -/

/-- R167: a frame that is not the engine's leaves its list, and no request is taken where none can be. -/
theorem exec_frameSent_other (hx : (s.ports.get p).sending = some x) (source : x.source ≠ .engine)
    (waits : (s.ports.get p).engine.isSome = true ∨ (s.ports.get p).inbound = []) {q : Port}
    (hq : (s.ports.get p).sent x = q) :
    exec (.frameSent p) s = .next (settle { s with ports := s.ports.set p { q with sending := none } }) := by
  subst hq
  have stays : pump p (s.onPort p (fun q => { q.sent x with sending := none })) =
      s.onPort p (fun q => { q.sent x with sending := none }) := by
    refine pump_waits ?_
    simpa only [State.onPort_ports, PerPort.get_set_self, Port.engine_sent source, Port.inbound_sent] using waits
  simp only [exec, execFrameSent, hx, frameDone, source, decide_false, Bool.false_and, Bool.false_eq_true, if_false,
    stays]
  rfl

/-- R98, R165, R167: a frame of the engine's leaves it, and the pin is released when the transfer ends. -/
theorem exec_frameSent_engine (hx : (s.ports.get p).sending = some x) (source : x.source = .engine) {q : Port}
    (hq : (s.ports.get p).engineSent = q) :
    exec (.frameSent p) s = .next (settle (pump p { s with
      ports := s.ports.set p { q with sending := none }
      ring := if (s.ports.get p).transferEnds then s.ring.release p else s.ring })) := by
  subst hq
  have sent : ∀ q : Port, q.sent x = q.engineSent := fun q => by simp only [Port.sent, source]
  simp only [exec, execFrameSent, hx, frameDone, source, sent, decide_true, Bool.true_and]
  cases (s.ports.get p).transferEnds <;> rfl

end Sys2Proof.Machine

open Sys2Proof Sys2Proof.Machine

/-- Settles O54: each list by what sending the frame leaves of the port, and the engine's last frame by what its look at
the inbound queue then finds. -/
theorem sentFramesLeaveTheirList : Obligations.SentFramesLeaveTheirList := by
  intro p s x hx q waits released leaves
  have hreleased : s.ring.release p = released := release_eq _ _
  have other (source : x.source ≠ .engine) (hw : waits) {q' : Port} (hq : q.sent x = q') : leaves q' :=
    exec_frameSent_other hx source hw hq
  have last {f : TxFrame} {moving : Bool} (source : x.source = .engine) (he : q.engine = some ⟨[f], moving⟩) :
      exec (.frameSent p) s = .next (settle (pump p { s with
        ports := s.ports.set p { q with engine := none, sending := none }
        ring := if moving then released else s.ring })) := by
    rw [exec_frameSent_engine hx source (Port.engineSent_last he), Port.transferEnds_eq he, hreleased]
    simp only [decide_true, Bool.and_true]
    rfl
  refine ⟨fun source hw => ?_, fun source hw => ?_, fun source hw => ?_, fun source hw => ?_,
    fun n marked source frame hw => ?_, fun f g rest moving source he => ?_, fun f source he empty => ?_,
    fun f source he empty => ?_, fun f r rest source he queued => ?_, fun f r rest source he queued => ?_⟩
  · exact other (by simp [source]) hw (by simp only [Port.sent, source])
  · exact other (by simp [source]) hw (by simp only [Port.sent, source])
  · exact other (by simp [source]) hw (by simp only [Port.sent, source])
  · exact other (by simp [source]) hw (by simp only [Port.sent, source])
  · exact other (by simp [source]) hw (by simp only [Port.sent, source, Port.noticeSent, frame])
  · show exec (.frameSent p) s = _
    rw [exec_frameSent_engine hx source (Port.engineSent_more he), Port.transferEnds_eq he, pump_waits (by simp)]
    simp only [reduceCtorEq, decide_false, Bool.and_false, Bool.false_eq_true, if_false]
    rfl
  · show exec (.frameSent p) s = _
    rw [last source he, pump_waits (by simp [empty])]
    rfl
  · rw [last source he, pump_waits (by simp [empty])]
    rfl
  · rw [last source he, pump_takes (r := r) (rest := rest) (by simp) (by simpa using queued)]
    simp [State.onPort]
  · rw [last source he, pump_takes (r := r) (rest := rest) (by simp) (by simpa using queued)]
    simp [State.onPort]
end

section
/-! ## Proofs: READ PROFILE and FLUSH PROFILES (R94 to R98) -/

namespace Sys2Proof.Machine

variable {p : PortId} {s : State}

/-! ### The segments of a transfer (R97) -/

/-- A segment without its mark. -/
def Segment.unmarked (g : Segment) : Segment := { g with final := false }

theorem Segment.unmarked_eq {g : Segment} (h : g.final = false) : g.unmarked = g := by
  cases g
  simp_all [Segment.unmarked]

theorem final_of_mem_series {α : Type} {tag : BitVec 8} {kind : Kind} {base : Nat} {mk : List α → SegItems}
    {items : List α} {g : Segment} (h : g ∈ series tag kind base mk items) : g.final = false := by
  obtain ⟨_, _, rfl⟩ := List.mem_map.1 h
  rfl

theorem final_of_mem_zoneSeries {tag : BitVec 8} {e : RingEntry} {g : Segment} (h : g ∈ zoneSeries tag e) :
    g.final = false := by
  unfold zoneSeries at h
  split at h
  · exact (List.mem_append.1 h).elim final_of_mem_series final_of_mem_series
  · exact absurd h List.not_mem_nil

/-- The mark leaves the segments before the last as they are. -/
theorem dropLast_markLast (l : List Segment) : (markLast l).dropLast = l.dropLast := by
  fun_induction markLast l with
  | case1 => rfl
  | case2 => rfl
  | case3 g rest more ih =>
    obtain ⟨h, t, rfl⟩ := List.exists_cons_of_ne_nil more
    cases t <;> simp_all [markLast]

theorem final_of_getLast?_markLast {l : List Segment} {g : Segment} (h : (markLast l).getLast? = some g) :
    g.final = true := by
  fun_induction markLast l with
  | case1 => simp at h
  | case2 a =>
    rw [List.getLast?_singleton, Option.some_inj] at h
    rw [← h]
  | case3 a rest more ih =>
    obtain ⟨b, t, rfl⟩ := List.exists_cons_of_ne_nil more
    cases t <;> simp_all [markLast]

/-- The mark is all that it changes. -/
theorem unmarked_markLast (l : List Segment) : (markLast l).map Segment.unmarked = l.map Segment.unmarked := by
  fun_induction markLast l with
  | case1 => rfl
  | case2 => rfl
  | case3 g rest more ih => rw [List.map_cons, List.map_cons, ih]

/-- R97: the series of a transfer before its last segment is marked. -/
def transferSeries (tag : BitVec 8) (e : RingEntry) (kinds forms : BitVec 8) (first last : Nat) : List Segment :=
  (if forms.getLsbD 0 then (maskKinds kinds).flatMap (rawSeries tag e first last) else []) ++
    (if forms.getLsbD 1 then (maskKinds kinds).flatMap (filteredSeries tag e first last) else []) ++
    (if forms.getLsbD 2 then zoneSeries tag e else [])

theorem transferSegments_eq (tag : BitVec 8) (e : RingEntry) (kinds forms : BitVec 8) (first last : Nat) :
    transferSegments tag e kinds forms first last = markLast (transferSeries tag e kinds forms first last) := rfl

theorem final_of_mem_transferSeries {tag : BitVec 8} {e : RingEntry} {kinds forms : BitVec 8} {first last : Nat}
    {g : Segment} (h : g ∈ transferSeries tag e kinds forms first last) : g.final = false := by
  simp only [transferSeries, List.mem_append, List.mem_ite_nil_right, List.mem_flatMap] at h
  obtain (⟨_, _, _, h⟩ | ⟨_, _, _, h⟩) | ⟨_, h⟩ := h
  · exact final_of_mem_series h
  · exact final_of_mem_series h
  · exact final_of_mem_zoneSeries h

theorem unmarked_transferSegments (tag : BitVec 8) (e : RingEntry) (kinds forms : BitVec 8) (first last : Nat) :
    (transferSegments tag e kinds forms first last).map Segment.unmarked =
      transferSeries tag e kinds forms first last := by
  rw [transferSegments_eq, unmarked_markLast]
  exact (List.map_congr_left fun g hg => Segment.unmarked_eq (final_of_mem_transferSeries hg)).trans (List.map_id' _)

theorem zoneSeries_eq (tag : BitVec 8) (e : RingEntry) :
    zoneSeries tag e = (e.zones.map fun z =>
      series tag z.kind 0 SegItems.zones z.zones ++ series tag z.kind 0 SegItems.bounds z.bounds).getD [] := by
  unfold zoneSeries
  cases e.zones <;> rfl

/-! ### The outcomes of READ PROFILE (R96) -/

theorem profileMalformed_iff {kinds forms : BitVec 8} {first last : BitVec 16} :
    profileMalformed kinds forms first last = true ↔
      kinds = 0 ∨ 16 ≤ kinds.toNat ∨ forms = 0 ∨ 8 ≤ forms.toNat ∨ last.toNat < first.toNat := by
  simp only [profileMalformed, Bool.or_eq_true, decide_eq_true_eq, or_assoc]

variable {tag : BitVec 8} {sel : ScanSelector} {kinds forms : BitVec 8} {first last : BitVec 16}

theorem takeReadProfile_malformed (bad : profileMalformed kinds forms first last = true) :
    takeReadProfile p tag sel kinds forms first last s = (s, .refusal .malformed) := by
  simp only [takeReadProfile, bad, if_true]

theorem takeReadProfile_noData (good : profileMalformed kinds forms first last = false)
    (none : s.ring.entries.filter (fun e => !e.marked) = []) :
    takeReadProfile p tag sel kinds forms first last s = (s, .refusal .noData) := by
  simp only [takeReadProfile, good, none, List.isEmpty_nil, Bool.false_eq_true, if_true, if_false]

theorem takeReadProfile_notHeld (good : profileMalformed kinds forms first last = false)
    (some : s.ring.entries.filter (fun e => !e.marked) ≠ [])
    (lacks : selectEntry (s.ring.entries.filter (fun e => !e.marked)) sel = .none) :
    takeReadProfile p tag sel kinds forms first last s = (s, .refusal .notHeld) := by
  simp only [takeReadProfile, good, Bool.false_eq_true, if_false, List.isEmpty_iff, some, lacks]

theorem takeReadProfile_granted {e : RingEntry} (good : profileMalformed kinds forms first last = false)
    (chosen : selectEntry (s.ring.entries.filter (fun e => !e.marked)) sel = some e) :
    takeReadProfile p tag sel kinds forms first last s =
      grantProfile p tag e kinds forms first.toNat last.toNat s := by
  have some : s.ring.entries.filter (fun e => !e.marked) ≠ [] := by
    intro none
    cases sel <;> simp [selectEntry, none] at chosen
  simp only [takeReadProfile, good, Bool.false_eq_true, if_false, List.isEmpty_iff, some, chosen]

/-- R96: a refusal of READ PROFILE. -/
theorem readProfile_refused {code : RespCode} (h : TakesAtOnce p s)
    (k : takeReadProfile p tag sel kinds forms first last (taken p s) = (taken p s, .refusal code)) :
    exec (.readProfile p tag sel kinds forms first last) s = .next (replied p tag 8 code .empty (taken p s)) :=
  congrArg _ (requestArrives_replied (r := .readProfile sel kinds forms first last) h tag rfl k)

/-- R96: the port pins the entry it is granted, and its engine holds the header and the segments. -/
theorem readProfile_granted {e : RingEntry} (h : TakesAtOnce p s)
    (k : takeReadProfile p tag sel kinds forms first last (taken p s) =
      grantProfile p tag e kinds forms first.toNat last.toNat (taken p s)) :
    exec (.readProfile p tag sel kinds forms first last) s =
      .next (settle
        (({ taken p s with ring := { s.ring with pins := s.ring.pins.set p (some e.header.scan) } }).onPort p
          fun q => { q with engine := some (answerJob tag 8
            (grantProfile p tag e kinds forms first.toNat last.toNat (taken p s)).2) })) := by
  have granted : carryOut p tag (.readProfile sel kinds forms first last) (taken p s) =
      grantProfile p tag e kinds forms first.toNat last.toNat (taken p s) := k
  show Host.Outcome.next (requestArrives p ⟨tag, .readProfile sel kinds forms first last⟩ s) = _
  rw [requestArrives_taken p _ s h, takeRequest]
  simp only [taken] at granted
  simp only [granted]
  rfl

/-- R94: an entry is pinned by one of the three ports. -/
theorem Ring.pinned_eq (r : Ring) (scan : Nat) :
    r.pinned scan = decide (r.pins.sp0 = some scan ∨ r.pins.sp1 = some scan ∨ r.pins.sp2 = some scan) := by
  simp only [Ring.pinned, Bool.decide_or, Bool.or_assoc]

end Sys2Proof.Machine

open Sys2Proof Sys2Proof.Machine

/-- Settles O45: the outcomes of READ PROFILE in the order of R96, then FLUSH PROFILES. -/
theorem profilesAreReadAndFlushed : Obligations.ProfilesAreReadAndFlushed := by
  refine ⟨fun p tag sel kinds forms first last s h => ?_, fun p tag sel kinds forms first last s e h => ?_,
    fun p tag s h => ?_⟩
  · intro bad held
    have passes (good : ¬ bad) : profileMalformed kinds forms first last = false :=
      Bool.eq_false_iff.2 (mt profileMalformed_iff.1 good)
    refine ⟨fun hb => ?_, fun good none => ?_, fun n good some hsel lacks => ?_⟩
    · exact readProfile_refused h (takeReadProfile_malformed (profileMalformed_iff.2 hb))
    · exact readProfile_refused h (takeReadProfile_noData (passes good) none)
    · subst hsel
      refine readProfile_refused h (takeReadProfile_notHeld (passes good) some ?_)
      exact List.find?_eq_none.2 fun e he => by simpa using lacks e he
  · intro hk0 hk hf0 hf hle held chosen lo hi header code asked granted cut
    have good : profileMalformed kinds forms first last = false := by
      refine Bool.eq_false_iff.2 (mt profileMalformed_iff.1 ?_)
      rintro (hb | hb | hb | hb | hb)
      · exact hk0 hb
      · omega
      · exact hf0 hb
      · omega
      · omega
    have picked : selectEntry held sel = some e := by
      cases sel <;> exact chosen
    have marked := transferSegments_eq tag e kinds forms lo hi
    refine ⟨transferSegments tag e kinds forms lo hi, readProfile_granted h (takeReadProfile_granted good picked),
      fun g hg => ?_, fun g hg => ?_, ?_⟩
    · rw [marked, dropLast_markLast] at hg
      exact final_of_mem_transferSeries (List.dropLast_subset _ hg)
    · exact final_of_getLast?_markLast (marked ▸ hg)
    · refine (unmarked_transferSegments tag e kinds forms lo hi).trans ?_
      rw [transferSeries, zoneSeries_eq]
      rfl
  · refine congrArg _ (requestArrives_replied (r := .flushProfiles) h tag rfl ?_)
    show ({ taken p s with ring := s.ring.flushed }, Answer.done) = _
    simp only [Ring.flushed, Ring.pinned_eq]
    rfl

end

section
/-! ## Proofs: the cells of an entry (R81 to R85) -/

namespace Sys2Proof.Machine

/-! ### The filter's step (R84) -/

theorem nearestInt_neg_of_pos {b : Nat} (a : Nat) (hb : 0 < b) : nearestInt (-a) b = -(nearestNat a b : Int) := by
  unfold nearestInt
  split_ifs with sign
  · have zero : a = 0 := by omega
    subst zero
    have none : nearestNat 0 b = 0 := Nat.div_eq_of_lt (by omega)
    simp [none]
  · rw [Int.natAbs_neg, Int.natAbs_natCast]

/-- R84: a part of a distance, no more than the whole of it. -/
theorem nearestNat_share_le {k : Nat} (d : Nat) (hk : k ≤ 256) : nearestNat (d * k) 256 ≤ d := by
  have le : d * k ≤ d * 256 := Nat.mul_le_mul_left d hk
  unfold nearestNat
  omega

theorem nearestNat_whole (d : Nat) : nearestNat (d * 256) 256 = d := by
  unfold nearestNat
  omega

/-- R84: towards a greater reading. -/
theorem filterStep_up {f v : Nat} (k : Nat) (h : f ≤ v) : filterStep f v k = f + nearestNat ((v - f) * k) 256 := by
  have step : ((v : Int) - f) * k = ((v - f) * k : Nat) := by rw [Nat.cast_mul, Nat.cast_sub h]
  rw [filterStep, step, nearestInt_natCast, ← Nat.cast_add, Int.toNat_natCast]

/-- R84: towards a smaller reading. -/
theorem filterStep_down {f v : Nat} (k : Nat) (h : v ≤ f) : filterStep f v k = f - nearestNat ((f - v) * k) 256 := by
  have step : ((v : Int) - f) * k = -((f - v) * k : Nat) := by
    rw [Nat.cast_mul, Nat.cast_sub h, ← Int.neg_mul, Int.neg_sub]
  rw [filterStep, step, nearestInt_neg_of_pos _ (by decide), ← Int.sub_eq_add_neg, Int.toNat_sub]

/-- R84: a step goes part of the way to the reading and never past it. -/
theorem filterStep_spec {f v k : Nat} (hk : k ≤ 256) :
    min f v ≤ filterStep f v k ∧ filterStep f v k ≤ max f v ∧ (k = 256 → filterStep f v k = v) ∧
      (f ≤ v → filterStep f v k = f + nearestNat ((v - f) * k) 256) ∧
      (v ≤ f → filterStep f v k + nearestNat ((f - v) * k) 256 = f) := by
  rcases Nat.le_total f v with h | h
  · have share := nearestNat_share_le (v - f) hk
    have step := filterStep_up k h
    refine ⟨by omega, by omega, ?_, fun _ => step, fun back => ?_⟩
    · rintro rfl
      rw [step, nearestNat_whole]
      omega
    · obtain rfl := Nat.le_antisymm h back
      simp_all
  · have share := nearestNat_share_le (f - v) hk
    have step := filterStep_down k h
    refine ⟨by omega, by omega, ?_, fun back => ?_, fun _ => by omega⟩
    · rintro rfl
      rw [step, nearestNat_whole]
      omega
    · exact filterStep_up k back

/-! ### The filtered part (R83 to R85) -/

theorem reseeded_eq (state : RawState) (value : Option Nat) :
    reseeded state value = if state = .on then ⟨.on, value, 0⟩ else ⟨.invalid, none, 0⟩ := by
  cases state <;> rfl

theorem filtered_on {k limit v f : Nat} {prev : FiltPart} (h : prev.value = some f) :
    filtered k limit .on (some v) prev = ⟨.on, some (filterStep f v k), 0⟩ := by
  simp only [filtered, h]

/-- R83: a reading where no filtered value is valid is taken over. -/
theorem filtered_first (k limit v : Nat) : filtered k limit .on (some v) FiltPart.none = ⟨.on, some v, 0⟩ := rfl

/-- R84: a valid value is HELD for HOLD_LIMIT entries without a reading. -/
theorem filtered_failed {k limit f : Nat} {state : RawState} {value : Option Nat} {prev : FiltPart}
    (fails : state ≠ .on) (h : prev.value = some f) :
    filtered k limit state value prev =
      if prev.age + 1 ≤ limit then ⟨.held, some f, prev.age + 1⟩ else FiltPart.none := by
  cases state <;> simp_all [filtered]

theorem filtered_none {k limit : Nat} {state : RawState} {value : Option Nat} (fails : state ≠ .on) :
    filtered k limit state value FiltPart.none = FiltPart.none := by
  cases state <;> simp_all [filtered, FiltPart.none]

variable {e : RingEntry} {kind : Kind} {j : Nat} {c : Cell}

theorem previousPart_valid (hc : (e.body.get kind)[j]? = some c) (valid : c.filt.state ≠ .invalid) :
    previousPart (some e) kind j = c.filt := by
  simp only [previousPart, Option.bind_some, hc, valid, if_false]

theorem previousPart_invalid (hc : (e.body.get kind)[j]? = some c) (invalid : c.filt.state = .invalid) :
    previousPart (some e) kind j = FiltPart.none := by
  simp only [previousPart, Option.bind_some, hc, invalid, if_true]

/-! ### The raw state (R82) -/

/-- R82: a bin is ON only with a value. -/
theorem rawValue_of_on {snap : Snapshot} {e : ScanEdges} {b : Bin} (h : rawState snap e j kind b = .on) :
    ∃ v, rawValue kind b = some v := by
  simp only [rawState] at h
  split_ifs at h with off edge thin
  exact Option.ne_none_iff_exists'.1 (not_or.1 thin).2

/-- R82: the comparisons of positions, taken as integers. -/
theorem rawState_eq_int (snap : Snapshot) (e : ScanEdges) (j : Nat) (kind : Kind) (b : Bin) :
    rawState snap e j kind b =
      let lo : Int := snap.binOrigin + j * snap.binWidth
      let hi : Int := lo + snap.binWidth
      if hi - 1 < e.front ∨ (e.back : Int) < lo then .off
      else if lo < (e.front : Int) + snap.edgeMargin ∨ (e.back : Int) - snap.edgeMargin < hi - 1 then .edge
      else if b.countOf kind < snap.minSamples ∨ rawValue kind b = none then .thin
      else .on := by
  have start : ((snap.binOrigin + j * snap.binWidth : Nat) : Int) = snap.binOrigin + j * snap.binWidth := by
    push_cast
    rfl
  have off (lo width front back : Nat) :
      (lo + width < front + 1 ∨ back < lo) ↔ ((lo : Int) + width - 1 < front ∨ (back : Int) < lo) := by omega
  have edge (lo width front back margin : Nat) : (lo < front + margin ∨ back + 1 < lo + width + margin) ↔
      ((lo : Int) < (front : Int) + margin ∨ (back : Int) - margin < (lo : Int) + width - 1) := by omega
  simp only [rawState, off, edge, start]

end Sys2Proof.Machine

open Sys2Proof Sys2Proof.Machine

/-- Settles O37: the model's value and state of the bin, and the filter's step from the part the entry before left. -/
theorem cellsFollowTheReadings : Obligations.CellsFollowTheReadings := by
  intro snap e prev kind j b lo hi value backing state k
  have hvalue : rawValue kind b = value := by cases kind <;> rfl
  have hbacking : b.countOf kind = backing := by cases kind <;> rfl
  have hk : snap.filterOf kind = k := by cases kind <;> rfl
  have hstate : rawState snap e j kind b = state := by rw [rawState_eq_int, hbacking, hvalue]
  refine ⟨?_, ?_⟩
  · rw [formCell, hvalue, hstate, if_pos rfl, reseeded_eq]
  intro entry c hprev hc cell
  have hcell : cell = ⟨value, state, filtered k snap.holdLimit state value (previousPart prev kind j)⟩ := by
    rw [← hvalue, ← hstate, ← hk]
    rfl
  rw [hcell, hprev]
  refine ⟨rfl, rfl, fun v f on reading valid hf _ hle => ?_, fun on invalid => ?_, fun f fails valid hf => ?_,
    fun fails invalid => ?_⟩
  · obtain ⟨above, below, whole, up, down⟩ := filterStep_spec (f := f) (v := v) hle
    refine ⟨filterStep f v k, ?_, above, below, whole, up, down⟩
    rw [previousPart_valid hc valid, on, reading, filtered_on hf]
  · obtain ⟨v, reading⟩ := rawValue_of_on (hstate.trans on)
    rw [previousPart_invalid hc invalid, on, ← hvalue, reading]
    rfl
  · rw [previousPart_valid hc valid, filtered_failed fails hf]
    rfl
  · rw [previousPart_invalid hc invalid, filtered_none fails]
    rfl

end

section
/-! ## Proofs: the statistics of a list of values (R80, R87) -/

namespace Sys2Proof.Machine

/-! ### The integer square root (R87) -/

/-- The bits found so far leave no more than the bits still to find. -/
theorem sqrtBits_spec {n k r : Nat} (found : r * r ≤ n) (left : n < (r + 2 ^ (k + 1)) * (r + 2 ^ (k + 1))) :
    sqrtBits n k r * sqrtBits n k r ≤ n ∧ n < (sqrtBits n k r + 1) * (sqrtBits n k r + 1) := by
  induction k generalizing r with
  | zero =>
    unfold sqrtBits
    split
    · exact ⟨‹_›, left⟩
    · exact ⟨found, not_le.1 ‹_›⟩
  | succ k ih =>
    unfold sqrtBits
    split
    · refine ih ‹_› ?_
      rwa [Nat.add_assoc, ← Nat.two_mul, ← Nat.pow_succ']
    · exact ih found (not_le.1 ‹_›)

theorem floorSqrt_spec (n : Nat) : floorSqrt n * floorSqrt n ≤ n ∧ n < (floorSqrt n + 1) * (floorSqrt n + 1) := by
  refine sqrtBits_spec (Nat.zero_le n) ?_
  have bits : n.log2 + 1 ≤ (n.log2 / 2 + 1 + 1) + (n.log2 / 2 + 1 + 1) := by omega
  calc n < 2 ^ (n.log2 + 1) := Nat.lt_log2_self
    _ ≤ 2 ^ ((n.log2 / 2 + 1 + 1) + (n.log2 / 2 + 1 + 1)) := Nat.pow_le_pow_right (by decide) bits
    _ = _ := by rw [Nat.pow_add, Nat.zero_add]

/-! ### Mean and variance (R87) -/

theorem absDiff_sq (a b : Nat) : ((absDiff a b * absDiff a b : Nat) : Int) = ((a : Int) - b) * (a - b) := by
  unfold absDiff
  split
  · rw [Nat.cast_mul, Nat.cast_sub ‹_›]
    ring
  · rw [Nat.cast_mul, Nat.cast_sub (by omega)]

/-- R87: the variance about a mean. -/
def varianceOf (mean : Nat) (values : List Nat) : Nat :=
  (values.map fun x => absDiff x mean * absDiff x mean).sum / values.length

theorem varianceOf_eq_int (mean : Nat) (values : List Nat) : (varianceOf mean values : Int) =
    ((values.map (Nat.cast : Nat → Int)).map fun v : Int => (v - mean) * (v - mean)).sum / values.length := by
  rw [varianceOf, Int.natCast_ediv, Nat.cast_list_sum, List.map_map, List.map_map]
  exact congrArg (fun l : List Int => l.sum / values.length) (List.map_congr_left fun v _ => absDiff_sq v mean)

/-! ### The statistics (R87) -/

theorem statsOf_cons (v : Nat) (rest : List Nat) : statsOf (v :: rest) = some
    { m := (v :: rest).length, mean := nearestNat (v :: rest).sum (v :: rest).length
      sig2 := 2 * floorSqrt (varianceOf (nearestNat (v :: rest).sum (v :: rest).length) (v :: rest))
      least := rest.foldl min v, most := rest.foldl max v } := rfl

theorem foldl_min_spec (v : Nat) (rest : List Nat) :
    rest.foldl min v ∈ v :: rest ∧ ∀ x ∈ v :: rest, rest.foldl min v ≤ x :=
  List.min?_eq_some_iff.1 List.min?_cons'

theorem foldl_max_spec (v : Nat) (rest : List Nat) :
    rest.foldl max v ∈ v :: rest ∧ ∀ x ∈ v :: rest, x ≤ rest.foldl max v :=
  List.max?_eq_some_iff.1 List.max?_cons'

end Sys2Proof.Machine

open Sys2Proof Sys2Proof.Machine

/-- Settles O38: the statistics of a list by its first value, and those of an entry kind by kind. -/
theorem statisticsSummarizeTheValues : Obligations.StatisticsSummarizeTheValues := by
  refine ⟨rfl, fun values some => ?_, fun a r st k => PerKind.get_of _ k⟩
  obtain ⟨v, rest, rfl⟩ := List.exists_cons_of_ne_nil some
  obtain ⟨least, lower⟩ := foldl_min_spec v rest
  obtain ⟨most, upper⟩ := foldl_max_spec v rest
  refine ⟨_, _, statsOf_cons v rest, rfl, rfl, rfl, ?_, least, lower, most, upper⟩
  -- The statement takes the values over to the integers in the list monad.
  simp only [bind_pure_comp, List.map_eq_map, ← varianceOf_eq_int]
  exact_mod_cast floorSqrt_spec _

end

section
/-! ## Proofs: what keeps the alarm list, the break state and the break output in agreement (R120, R127, R130)

Most operations leave the records, the break state and the output as they are, which `breakView` gathers. A raise, a
break, RECOVERY, THREADING, a proven sheet, an acknowledgement and a port reset keep their agreement. -/

namespace Sys2Proof.Machine

variable {s t : State}

/-- The fields that `AlarmsMatch` speaks of. -/
def State.breakView (s : State) : List Alarm × Bool × Bool := (s.alarms.records, s.mon.state.open, s.mon.output)

theorem AlarmsMatch.of_view (h : AlarmsMatch s) (e : t.breakView = s.breakView) : AlarmsMatch t := by
  simp only [State.breakView, Prod.mk.injEq] at e
  obtain ⟨records, opened, output⟩ := e
  simpa only [AlarmsMatch, records, opened, output] using h

/-! ### The list of records -/

/-- A change of records one by one that keeps their state and kind. -/
theorem activeCount_map {f : Alarm → Alarm} (hf : ∀ r, (f r).state = r.state) (l : List Alarm) :
    activeCount (l.map f) = activeCount l := by
  simp [activeCount, List.filter_map, Function.comp_def, hf]

/-- Only CLEARED records leave. -/
theorem activeCount_filter {keep : Alarm → Bool} (hk : ∀ r, r.state = .active → keep r = true) (l : List Alarm) :
    activeCount (l.filter keep) = activeCount l := by
  rw [activeCount, List.filter_filter, activeCount]
  refine congrArg List.length (List.filter_congr fun r _ => ?_)
  by_cases h : r.state = .active <;> simp [h, hk]

theorem activeCount_append (l m : List Alarm) : activeCount (l ++ m) = activeCount l + activeCount m := by
  simp [activeCount]

theorem Alarm.covered_active {r : Alarm} (h : r.state = .active) : r.covered = false := by simp [Alarm.covered, h]

theorem activeCount_removeCovered (id : Nat) (l : List Alarm) : activeCount (removeCovered id l) = activeCount l :=
  activeCount_filter (fun _ h => by simp [Alarm.covered_active h]) l

theorem alarmRoom_sublist (l : List Alarm) : (alarmRoom l).Sublist l := by
  unfold alarmRoom
  split
  · exact List.eraseP_sublist
  · exact .refl l

theorem activeCount_eraseCleared (l : List Alarm) :
    activeCount (l.eraseP fun r => decide (r.state = .cleared)) = activeCount l := by
  induction l with
  | nil => rfl
  | cons r rest ih =>
    simp only [activeCount] at ih ⊢
    cases h : r.state <;> simp [h, ih]

theorem activeCount_alarmRoom (l : List Alarm) : activeCount (alarmRoom l) = activeCount l := by
  unfold alarmRoom
  split
  · exact activeCount_eraseCleared l
  · rfl

/-- R128 step 1: a list with one ACTIVE record at most has room for one more. -/
theorem length_alarmRoom {l : List Alarm} (h8 : l.length ≤ 8) (h1 : activeCount l ≤ 1) :
    (alarmRoom l).length ≤ 7 := by
  unfold alarmRoom
  split
  case isFalse => omega
  case isTrue full =>
    have some_cleared : ∃ r ∈ l, r.state = .cleared := by
      by_contra none
      have all : l.filter (fun r => decide (r.state = .active)) = l :=
        List.filter_eq_self.2 fun r hr => by cases hs : r.state <;> simp_all
      rw [activeCount, all] at h1
      omega
    obtain ⟨r, hr, hs⟩ := some_cleared
    rw [List.length_eraseP_of_mem hr (by simpa using hs)]
    omega

/-! ### Raises and the break's own record (R118, R126, R128) -/

@[simp] theorem BreakState.open_recovery : BreakState.recovery.open = true := rfl
@[simp] theorem BreakState.open_threading : BreakState.threading.open = true := rfl

theorem BreakState.toNat_open_le (st : BreakState) : st.open.toNat ≤ 1 := by cases st <;> decide

/-- R128, R132: the records after a raise hold the new record, if it stays, and those that had room. -/
theorem AlarmsMatch.raised (h : AlarmsMatch s) (kind : AlarmKind) (cause : Option Cause) (scan : Nat)
    (pos : Option Nat) :
    (raiseAlarm kind cause scan pos s).alarms.records.length ≤ 8 ∧
      activeCount (raiseAlarm kind cause scan pos s).alarms.records =
        activeCount s.alarms.records + (if kind = .brk then 1 else 0) ∧
      ∀ r ∈ (raiseAlarm kind cause scan pos s).alarms.records, r.state = .active → r.kind = .brk := by
  obtain ⟨bound, one, kinds, _⟩ := h
  have room := length_alarmRoom bound (one ▸ s.mon.state.toNat_open_le)
  rw [raiseAlarm_alarms]
  refine ⟨?_, ?_, fun r hr ha => ?_⟩
  · refine (List.length_filter_le _ _).trans ?_
    simpa using Nat.lt_succ_of_le room
  · rw [activeCount_removeCovered, activeCount_append, activeCount_alarmRoom]
    by_cases hk : kind = .brk <;> simp [activeCount, newAlarm, hk]
  · obtain ⟨hr, _⟩ := List.mem_filter.1 hr
    rcases List.mem_append.1 hr with hr | hr
    · exact kinds r ((alarmRoom_sublist _).subset hr) ha
    · obtain rfl := List.mem_singleton.1 hr
      by_contra hk
      simp [newAlarm] at ha hk
      exact hk ha

/-- A momentary alarm raised leaves the ACTIVE records as they are. -/
theorem AlarmsMatch.raiseAlarm (h : AlarmsMatch s) {kind : AlarmKind} (hk : kind ≠ .brk) (cause : Option Cause)
    (scan : Nat) (pos : Option Nat) : AlarmsMatch (raiseAlarm kind cause scan pos s) := by
  obtain ⟨bound, count, kinds⟩ := h.raised kind cause scan pos
  obtain ⟨_, one, _, output⟩ := h
  refine ⟨bound, ?_, kinds, ?_⟩
  · rw [count, if_neg hk, Nat.add_zero, one, raiseAlarm_mon]
  · rw [raiseAlarm_mon, output]

/-- R126: the ACTIVE records become CLEARED, and those that are covered leave. -/
theorem activeCount_cleared (l : AlarmList) : activeCount (clearedAlarms l).records = 0 := by
  unfold clearedAlarms
  split
  · rename_i none
    rw [activeCount, List.length_eq_zero_iff, List.filter_eq_nil_iff]
    simpa using none
  · rw [activeCount_removeCovered, activeCount, List.length_eq_zero_iff, List.filter_eq_nil_iff]
    intro r hr
    obtain ⟨a, _, rfl⟩ := List.mem_map.1 hr
    by_cases ha : a.state = .active <;> simp [ha]

theorem length_cleared_le (l : AlarmList) : (clearedAlarms l).records.length ≤ l.records.length := by
  unfold clearedAlarms
  split
  · exact le_rfl
  · exact (List.length_filter_le _ _).trans (by simp [onActive])

/-- A list with no ACTIVE record agrees with a closed break. -/
theorem kinds_of_activeCount {l : List Alarm} (h : activeCount l = 0) : ∀ r ∈ l, r.state = .active → r.kind = .brk := by
  intro r hr ha
  have none := List.filter_eq_nil_iff.1 (List.length_eq_zero_iff.1 h) r hr
  simp [ha] at none

/-! ### The break monitor -/

theorem AlarmsMatch.of_onlyNotices {ids : List TallyId} (h : AlarmsMatch s) (k : OnlyNotices ids s t) : AlarmsMatch t :=
  h.of_view (by simp only [State.breakView, k.alarms, k.mon])

theorem AlarmsMatch.sheetBroken (h : AlarmsMatch s) (hp : s.permits = true) (cause : Cause) (scan : Nat)
    (pos : Option Nat) : AlarmsMatch (sheetBroken cause scan pos s) := by
  obtain ⟨raisedBound, raisedCount, raisedKinds⟩ := h.raised .brk (some cause) scan pos
  obtain ⟨bound, one, kinds, output⟩ := h
  by_cases hr : s.mon.state = .recovery
  · let again (r : Alarm) : Alarm := if r.state = .active then { r with rebreaks := min (r.rebreaks + 1) 255 } else r
    have hs (r : Alarm) : (again r).state = r.state := by simp only [again]; split <;> rfl
    have hk (r : Alarm) : (again r).kind = r.kind := by simp only [again]; split <;> rfl
    have records : (Machine.sheetBroken cause scan pos s).alarms.records = s.alarms.records.map again := by
      simp [Machine.sheetBroken, hr, rebrokenAlarms, again]
    refine ⟨?_, ?_, ?_, ?_⟩
    · rwa [records, List.length_map]
    · rw [records, activeCount_map hs, one, hr]
      rfl
    · rw [records]
      simpa [hs, hk] using kinds
    · simp [Machine.sheetBroken, hr, output, BreakState.open]
  · have closed : s.mon.state.open = false := by
      cases hm : s.mon.state <;> simp_all [State.permits, BreakState.permits, BreakState.open]
    have records : (Machine.sheetBroken cause scan pos s).alarms = (Machine.raiseAlarm .brk (some cause) scan pos s).alarms := by
      simp [Machine.sheetBroken, hr]
    refine ⟨records ▸ raisedBound, ?_, records ▸ raisedKinds, ?_⟩
    · rw [records, raisedCount, one, closed]
      rfl
    · simp [Machine.sheetBroken, hr, BreakState.open]

/-- R117, R118: no break is declared in BREAK and THREADING. -/
theorem breakCause_of_not_permits (cause : Cause) (scan : Nat) (pos : Option Nat) (hp : s.permits ≠ true) :
    breakCause cause scan pos s = s := by
  unfold breakCause
  cases hm : s.mon.state <;> simp_all [State.permits, BreakState.permits]

theorem AlarmsMatch.breakCause (h : AlarmsMatch s) (cause : Cause) (scan : Nat) (pos : Option Nat) :
    AlarmsMatch (breakCause cause scan pos s) := by
  by_cases hp : s.permits = true
  · rw [breakCause_eq cause scan pos s hp]
    exact (h.sheetBroken hp cause scan pos).of_onlyNotices (onlyNotices_breakTaken cause scan pos s)
  · rwa [breakCause_of_not_permits cause scan pos hp]

/-- R122: a break stays open when its state becomes RECOVERY. -/
theorem AlarmsMatch.enterRecovery (h : AlarmsMatch s) (ho : s.mon.state.open = true) (cause : Cause) :
    AlarmsMatch (enterRecovery cause s) :=
  h.of_view (by simp [State.breakView, Machine.enterRecovery, ho])

/-- R119: a break stays open when its state becomes THREADING. -/
theorem AlarmsMatch.enterThreading (h : AlarmsMatch s) (ho : s.mon.state.open = true) :
    AlarmsMatch (enterThreading s) :=
  h.of_view (by simp [State.breakView, Machine.enterThreading, ho])

theorem AlarmsMatch.reportComplete (h : AlarmsMatch s) (width : Nat) : AlarmsMatch (reportComplete width s) := by
  refine AlarmsMatch.of_onlyNotices (s := sheetReported width s) ?_ (onlyNotices_reportComplete [] width s)
  by_cases hp : provesSheet width s = true
  · have hr : s.mon.state = .recovery := by simp_all [provesSheet]
    have none := activeCount_cleared s.alarms
    simp only [sheetReported, reportedMon, hr, hp, if_true, AlarmsMatch]
    exact ⟨(length_cleared_le _).trans h.1, none, kinds_of_activeCount none, rfl⟩
  · refine h.of_view ?_
    cases hm : s.mon.state <;> simp [State.breakView, sheetReported, reportedMon, hp, hm, BreakState.open]

end Sys2Proof.Machine
end

section
/-! ## Proofs: every step keeps the alarm list, the break state and the break output in agreement -/

namespace Sys2Proof.Machine

variable {s t : State}

/-! ### Operations that leave the alarms and the break as they are -/

@[simp] theorem notify_breakView (n : Notice) (s : State) : (notify n s).breakView = s.breakView := by
  simp [State.breakView]

@[simp] theorem queueAt_breakView (n : Notice) (p : PortId) (s : State) : (queueAt n p s).breakView = s.breakView := by
  simp [State.breakView]

@[simp] theorem count_breakView (id : TallyId) (n : Nat) (s : State) : (count id n s).breakView = s.breakView := by
  simp [State.breakView]

@[simp] theorem countTimes_breakView (id : TallyId) (n : Nat) (s : State) :
    (countTimes id n s).breakView = s.breakView := by
  simp [State.breakView]

@[simp] theorem onLine_breakView (l : Line) (f : LineState → LineState) (s : State) :
    (s.onLine l f).breakView = s.breakView := by
  simp [State.breakView]

@[simp] theorem changeState_breakView (st : TravState) (s : State) : (changeState st s).breakView = s.breakView := by
  simp [State.breakView]

@[simp] theorem park_breakView (s : State) : (park s).breakView = s.breakView := changeState_breakView _ _

@[simp] theorem enterPositioning_breakView (target : MoveTarget) (s : State) :
    (enterPositioning target s).breakView = s.breakView := by
  refine (changeState_breakView _ _).trans ?_
  cases target <;> rfl

@[simp] theorem applyValues_breakView (l : List (Item × SetupValue)) (point : ApplyPoint) (s : State) :
    (applyValues l point s).breakView = s.breakView := by
  unfold applyValues
  split
  · rfl
  · exact notify_breakView _ _

@[simp] theorem applyArmed_breakView (sel : Armed → Bool) (point : ApplyPoint) (s : State) :
    (applyArmed sel point s).breakView = s.breakView :=
  applyValues_breakView _ _ _

@[simp] theorem testGroup_breakView (was : Bool) (s : State) : (testGroup was s).breakView = s.breakView := by
  unfold testGroup
  split
  · split <;> rfl
  · rfl

@[simp] theorem startStandardization_breakView (s : State) : (startStandardization s).breakView = s.breakView := by
  have applied (u : State) : (applyGroup u).breakView = u.breakView := by
    unfold applyGroup
    split
    · exact applyArmed_breakView _ _ _
    · rfl
  exact applied (s.onStd fun u => { u with retry := none })

@[simp] theorem enterStandardizing_breakView (s : State) : (enterStandardizing s).breakView = s.breakView :=
  (startStandardization_breakView _).trans (changeState_breakView _ _)

@[simp] theorem resume_breakView (s : State) : (resume s).breakView = s.breakView := by
  unfold resume
  split
  · split <;> simp
  · simp

@[simp] theorem arrivalAtPark_breakView (s : State) : (arrivalAtPark s).breakView = s.breakView := by
  unfold arrivalAtPark
  extract_lets a u
  split
  · exact enterStandardizing_breakView _
  · exact resume_breakView _

@[simp] theorem idleStart_breakView (target : MoveTarget) (s : State) :
    (idleStart target s).breakView = s.breakView := by
  unfold idleStart
  split
  · simp
  · split <;> simp

@[simp] theorem traverseRecovered_breakView (s : State) : (traverseRecovered s).breakView = s.breakView := by
  unfold traverseRecovered
  split <;> simp

@[simp] theorem freeAccumulating_breakView (s : State) : (freeAccumulating s).breakView = s.breakView := by
  unfold freeAccumulating
  split <;> rfl

@[simp] theorem runScan_breakView (i : SetId) (dir : Dir) (s : State) : (runScan i dir s).breakView = s.breakView :=
  (changeState_breakView _ _).trans (applyArmed_breakView _ _ s)

@[simp] theorem resetLine_breakView (l : Line) (old : Setup) (s : State) :
    (resetLine l old s).breakView = s.breakView := by
  unfold resetLine
  split <;> simp

@[simp] theorem commitTaken_breakView (p : PortId) (target : Target) (s : State) :
    (commitTaken p target s).breakView = s.breakView := by
  have told (armed : List Armed) (l : List Staged) (q : PortId) (u : State) :
      (notifySuperseded armed l p target q u).breakView = u.breakView := by
    unfold notifySuperseded
    dsimp only
    split <;> simp
  unfold commitTaken
  dsimp only
  split
  · rw [testGroup_breakView, told, told, told, applyValues_breakView]
    rfl
  · rw [told, told, told, applyValues_breakView]
    rfl

theorem addToBin_breakView (i : SetId) (j : Nat) (c : Converted) (s : State) :
    (addToBin i j c s).breakView = s.breakView :=
  countTimes_breakView _ _ _

@[simp] theorem binStage_breakView (i : SetId) (k : Tracker) (c : Converted) (s : State) :
    (binStage i k c s).breakView = s.breakView := by
  unfold binStage
  split
  · simp
  · split
    · simp
    · exact addToBin_breakView _ _ _ _

@[simp] theorem markSlipped_breakView (s : State) : (markSlipped s).breakView = s.breakView := by
  unfold markSlipped
  split
  · dsimp only
    split <;> rfl
  · rfl

/-! ### The monitor and the machine lines (R114 to R126) -/

/-- R116: an edge leads to RECOVERY from THREADING alone. -/
theorem threading_of_edgeEvent {l : Line} (told : edgeEvent l s = .recovered) : s.mon.state = .threading := by
  unfold edgeEvent at told
  split at told
  · split at told <;> cases told
  · split at told
    · exact (‹_ ∧ _› : _ ∧ _).1
    · cases told
  · cases told
  · split at told
    · exact (‹_ ∧ _› : _ ∧ _).1
    · cases told

theorem AlarmsMatch.edgeEffect (h : AlarmsMatch s) (l : Line) : AlarmsMatch (edgeEffect l s) := by
  unfold Machine.edgeEffect
  split
  · exact h.breakCause _ _ _
  · rename_i told
    exact h.enterRecovery (by rw [threading_of_edgeEvent told]; rfl) _
  · split
    · rename_i hb
      exact h.enterThreading (by rw [hb.2.2]; rfl)
    · exact h

theorem AlarmsMatch.enableInScanEnd (h : AlarmsMatch s) (l : Line) (old : Setup) :
    AlarmsMatch (enableInScanEnd l old s) := by
  have reset : AlarmsMatch (resetLine l old s) := h.of_view (resetLine_breakView l old s)
  unfold Machine.enableInScanEnd
  dsimp only
  split
  · split
    · exact (reset.of_view (t := takeLevel l _) (onLine_breakView _ _ _)).edgeEffect l
    · exact reset.of_view (onLine_breakView _ _ _)
  · exact reset

theorem AlarmsMatch.applyScanEnd (h : AlarmsMatch s) (was : Bool) : AlarmsMatch (applyScanEnd was s) := by
  have applied : AlarmsMatch (testGroup was (applyArmed (scanEndSelects s) .scanEnd s)) := h.of_view (by simp)
  exact (applied.enableInScanEnd _ _).enableInScanEnd _ _

/-! ### Scan ends, scan starts and head faults (R15 to R18, R23) -/

theorem AlarmsMatch.reportScanEnd (h : AlarmsMatch s) (code : EndCode) (width : Nat) :
    AlarmsMatch (reportScanEnd code width s) := by
  unfold Machine.reportScanEnd
  split
  · exact h
  · have noted (n : Notice) :
        AlarmsMatch (notify n (count code.tally 1 (s.onTrav fun t => { t with cur := none }))) :=
      h.of_view ((notify_breakView _ _).trans (count_breakView _ _ _))
    dsimp only
    split
    · exact (noted _).reportComplete _
    · exact noted _

theorem AlarmsMatch.endScan (h : AlarmsMatch s) (code : EndCode) : AlarmsMatch (endScan code s) :=
  ((h.of_view (freeAccumulating_breakView s)).reportScanEnd code 0).applyScanEnd _

theorem AlarmsMatch.takeHeadFault (h : AlarmsMatch s) : AlarmsMatch (takeHeadFault s) := by
  have stopped : AlarmsMatch (issue .stop s) := h
  have ended : AlarmsMatch (if (issue .stop s).trav.cur.isSome then Machine.endScan .headFault (issue .stop s)
      else issue .stop s) := by
    split
    · exact stopped.endScan _
    · exact stopped
  unfold Machine.takeHeadFault
  dsimp only
  generalize (if (issue .stop s).trav.cur.isSome then _ else _) = u at ended
  refine ended.of_view ((changeState_breakView _ _).trans ?_)
  unfold abandonStandardization
  split <;> rfl

theorem AlarmsMatch.headFault (h : AlarmsMatch s) : AlarmsMatch (headFault s) := by
  unfold Machine.headFault
  split
  · exact h
  · split
    · exact h.takeHeadFault
    · exact h
  · exact h.takeHeadFault

theorem AlarmsMatch.startScan (h : AlarmsMatch s) (dir : Dir) : AlarmsMatch (startScan dir s) := by
  unfold Machine.startScan
  split
  · exact h.of_view (changeState_breakView _ _)
  · split
    · exact h.headFault
    · exact h.of_view (runScan_breakView _ _ _)

theorem AlarmsMatch.arrivalAtTarget (h : AlarmsMatch s) : AlarmsMatch (arrivalAtTarget s) := by
  unfold Machine.arrivalAtTarget
  split
  · split
    · exact h.startScan _
    · split
      · exact h.startScan _
      · exact h.of_view (enterPositioning_breakView _ _)
  · split
    · exact h.of_view (changeState_breakView _ _)
    · exact h.of_view (enterPositioning_breakView _ _)
  · exact h

theorem AlarmsMatch.updateMapping (h : AlarmsMatch s) (e : ScanEdges) (snap : Snapshot) (scan : Nat) :
    AlarmsMatch (updateMapping e snap scan s) := by
  have counted : AlarmsMatch (count .edgeJumps 1 s) := h.of_view (count_breakView _ _ _)
  unfold Machine.updateMapping
  dsimp only
  split
  · exact h
  · split
    · exact h
    · have jumped := counted.raiseAlarm (kind := .edgeJump) (by decide) none scan (some (jumpPosition ‹_› e))
      split <;> exact jumped

theorem AlarmsMatch.endComplete (h : AlarmsMatch s) (i : SetId) (c : CurScan) (e : ScanEdges) :
    AlarmsMatch (endComplete i c e s) := by
  have completed : AlarmsMatch (completeSet i e s) := by
    unfold completeSet
    dsimp only
    split
    · exact h
    · exact AlarmsMatch.updateMapping (s := s.onSet i _) h _ _ _
  have counted : AlarmsMatch (countComplete (Machine.reportScanEnd .complete e.width (completeSet i e s))) :=
    completed.reportScanEnd _ _
  have applied := counted.applyScanEnd s.groupDue
  unfold Machine.endComplete afterComplete
  dsimp only
  split
  · exact applied.of_view (park_breakView _)
  · split
    · exact applied.of_view (park_breakView _)
    · exact applied.startScan _

theorem AlarmsMatch.endNoSheet (h : AlarmsMatch s) (c : CurScan) : AlarmsMatch (endNoSheet c s) := by
  have broken := h.breakCause .noSheet c.number none
  have reported := (broken.of_view (freeAccumulating_breakView _)).reportScanEnd .broken 0
  exact (reported.applyScanEnd _).of_view (park_breakView _)

theorem AlarmsMatch.scanEndEvent (h : AlarmsMatch s) : AlarmsMatch (scanEndEvent s) := by
  unfold Machine.scanEndEvent
  split
  · split
    · exact h.endComplete _ _ _
    · exact h.endNoSheet _
  · exact h

/-! ### What the break monitor tells the controller (R22) -/

theorem AlarmsMatch.traverseBreak (h : AlarmsMatch s) : AlarmsMatch (traverseBreak s) := by
  unfold Machine.traverseBreak
  split
  · split
    · exact (h.endScan _).of_view (park_breakView _)
    · exact h
  · exact h.of_view (park_breakView _)
  · exact h.of_view (park_breakView _)
  · exact h.of_view (park_breakView _)
  · exact h

theorem AlarmsMatch.tellTraverse (h : AlarmsMatch s) (e : TravEvent) : AlarmsMatch (tellTraverse e s) := by
  cases e with
  | quiet => exact h
  | broke => exact h.traverseBreak
  | recovered => exact h.of_view (traverseRecovered_breakView s)

theorem AlarmsMatch.takeCause (h : AlarmsMatch s) (cause : Cause) (scan : Nat) (pos : Option Nat) :
    AlarmsMatch (takeCause cause scan pos s) :=
  (h.breakCause _ _ _).tellTraverse _

theorem AlarmsMatch.lineEdge (h : AlarmsMatch s) (l : Line) : AlarmsMatch (lineEdge l s) :=
  (h.edgeEffect l).tellTraverse _

theorem AlarmsMatch.takeLevel (h : AlarmsMatch s) (l : Line) : AlarmsMatch (takeLevel l s) :=
  h.of_view (onLine_breakView _ _ _)

theorem AlarmsMatch.enableAtCommit (h : AlarmsMatch s) (l : Line) (old : Setup) :
    AlarmsMatch (enableAtCommit l old s) := by
  have reset : AlarmsMatch (resetLine l old s) := h.of_view (resetLine_breakView l old s)
  unfold Machine.enableAtCommit
  dsimp only
  split
  · split
    · exact (reset.takeLevel l).lineEdge l
    · exact reset.of_view (onLine_breakView _ _ _)
  · exact reset

/-! ### Samples (R6, R21, R29 to R36, R47, R59 to R65) -/

theorem AlarmsMatch.sheetSample (h : AlarmsMatch s) (i : SetId) (k : Tracker) (c : Converted) :
    AlarmsMatch (sheetSample i k c s) := by
  have counted (k : Tracker) : AlarmsMatch (count .holes 1 (s.onEdge fun e => { e with tracker := some k })) :=
    h.of_view (count_breakView _ _ _)
  unfold Machine.sheetSample
  dsimp only
  refine AlarmsMatch.of_view ?_ (binStage_breakView _ _ _ _)
  split
  · exact (counted _).raiseAlarm (by decide) _ _ _
  · exact h

theorem AlarmsMatch.scanSample (h : AlarmsMatch s) (f : SampleFrame) : AlarmsMatch (scanSample f s) := by
  unfold Machine.scanSample
  split
  · split
    · exact h.of_view (count_breakView _ _ _)
    · split
      · unfold airSampleStep
        split
        · exact AlarmsMatch.takeCause (s := airTracked _ _ _ s) h _ _ _
        · exact h
      · exact h.sheetSample _ _ _
  · exact h

theorem AlarmsMatch.dwellSample (h : AlarmsMatch s) (f : SampleFrame) : AlarmsMatch (dwellSample f s) := by
  have dwelt (d : DwellAcc) : AlarmsMatch (s.setDwell d) := h
  unfold Machine.dwellSample
  split
  · exact h.of_view (count_breakView _ _ _)
  · split
    · unfold dwellAir
      dsimp only
      split
      · exact (dwelt _).takeCause _ _ _
      · exact dwelt _
    · unfold dwellSheet
      dsimp only
      split
      · exact (dwelt _).of_view (notify_breakView _ _)
      · exact dwelt _

theorem AlarmsMatch.reportResult (h : AlarmsMatch s) (r : StdRecord) : AlarmsMatch (reportResult r s) := by
  have counted : AlarmsMatch (if r.result.accepted then s else count .stdFailures 1 s) := by
    split
    · exact h
    · exact h.of_view (count_breakView _ _ _)
  unfold Machine.reportResult
  dsimp only
  refine AlarmsMatch.of_view ?_ (notify_breakView _ _)
  split
  · exact counted
  · exact counted.raiseAlarm (by decide) _ _ _
  · exact counted.raiseAlarm (by decide) _ _ _

theorem AlarmsMatch.concludeStandardization (h : AlarmsMatch s) (x : StdFlight) :
    AlarmsMatch (concludeStandardization x s) := by
  have taken : AlarmsMatch (resultTaken x s) := by
    unfold resultTaken
    dsimp only
    split <;> exact h
  rw [concludeStandardization_eq, actOnGroupMark_eq]
  exact taken.reportResult (recordOf x s)

@[simp] theorem takeResult_breakView (s : State) : (takeResult s).breakView = s.breakView := by
  unfold takeResult
  split
  · split
    · simp
    · unfold afterFailure
      split
      · exact changeState_breakView _ _
      · split <;> simp
  · rfl

theorem AlarmsMatch.stdSample (h : AlarmsMatch s) (f : SampleFrame) : AlarmsMatch (stdSample f s) := by
  unfold Machine.stdSample
  split
  · unfold stdAdvance
    split
    · split
      · exact h
      · exact (h.concludeStandardization _).of_view (takeResult_breakView _)
    · exact h
  · exact h

theorem AlarmsMatch.reckon (h : AlarmsMatch s) (f : SampleFrame) : AlarmsMatch (reckon f s) := by
  unfold Machine.reckon
  dsimp only
  split
  · rename_i mark _
    have moved : AlarmsMatch (if (s.setPos (reckoned f s)).setup.active.positionMode = .reckoned then
        (s.setPos (reckoned f s)).setPos mark else s.setPos (reckoned f s)) := by
      split <;> exact h
    unfold checkMark
    dsimp only
    split
    · exact moved
    · have slipped := (moved.of_view (count_breakView .positionSlips 1 _)).raiseAlarm (kind := .positionSlip)
        (by decide)
      exact (slipped _ _ _).of_view (markSlipped_breakView _)
  · exact h

theorem AlarmsMatch.sampleRecord (h : AlarmsMatch s) (f : SampleFrame) : AlarmsMatch (sampleRecord f s) := by
  have checked : AlarmsMatch (takeSeq f (frameSeen s)) := by
    unfold takeSeq
    dsimp only
    split
    · exact h
    · exact h.of_view (count_breakView _ _ _)
  have placed := checked.reckon f
  unfold Machine.sampleRecord
  dsimp only
  split
  · exact h
  · unfold deliver
    split
    · exact placed.scanSample f
    · exact placed.stdSample f
    · exact placed.dwellSample f
    all_goals exact placed

end Sys2Proof.Machine
end

section
/-! ## Proofs: requests, ports and whole steps keep the alarms and the break in agreement -/

namespace Sys2Proof.Machine

variable {s t : State}

/-! ### Acknowledgements and port resets (R131, R132, R134) -/

/-- R131, R134: records that change their sets of ports alone, of which only CLEARED ones leave. -/
theorem AlarmsMatch.onAlarms (h : AlarmsMatch s) {f : Alarm → Alarm} {keep : Alarm → Bool}
    (hs : ∀ r, (f r).state = r.state) (hk : ∀ r, (f r).kind = r.kind)
    (stays : ∀ r, r.state = .active → keep r = true) :
    AlarmsMatch (s.onAlarms fun l => (l.map f).filter keep) := by
  obtain ⟨bound, one, kinds, output⟩ := h
  refine ⟨?_, ?_, ?_, output⟩
  · exact (List.length_filter_le _ _).trans (by simpa using bound)
  · exact (activeCount_filter stays _).trans ((activeCount_map hs _).trans one)
  · intro r hr ha
    obtain ⟨a, hm, rfl⟩ := List.mem_map.1 (List.mem_filter.1 hr).1
    rw [hk]
    exact kinds a hm (hs a ▸ ha)

theorem AlarmsMatch.takeAcknowledge (h : AlarmsMatch s) (p : PortId) (id : BitVec 16) :
    AlarmsMatch (takeAcknowledge p id s).1 := by
  unfold Machine.takeAcknowledge
  split
  · exact h
  · split
    · refine h.onAlarms (fun r => ?_) (fun r => ?_) fun r hr => by simp [Alarm.covered_active hr]
      · split <;> rfl
      · split <;> rfl
    · exact h

theorem AlarmsMatch.resetPort (h : AlarmsMatch s) (p : PortId) (answer : Option (BitVec 8)) (sending : Option Sending) :
    AlarmsMatch (resetPort p answer sending s) := by
  have released : AlarmsMatch ((releasePin p (s.onPort p (Port.resetState answer sending))).setStaging p []) := h
  exact released.onAlarms (f := Alarm.without p) (fun _ => rfl) (fun _ => rfl) fun r hr => by
    simp [Alarm.covered_active hr]

/-! ### Requests (R165) -/

@[simp] theorem startEffect_breakView (s : State) : (startEffect s).breakView = s.breakView := by
  unfold startEffect
  split
  · split <;> simp
  · exact enterPositioning_breakView _ _
  · rfl

@[simp] theorem standardizeEffect_breakView (s : State) : (standardizeEffect s).breakView = s.breakView := by
  unfold standardizeEffect
  split
  · split <;> simp
  · rfl

theorem AlarmsMatch.stopEffect (h : AlarmsMatch s) : AlarmsMatch (stopEffect s) := by
  unfold Machine.stopEffect
  split
  · exact (h.endScan _).of_view (park_breakView _)
  · exact h.of_view (park_breakView _)
  · exact h.of_view (park_breakView _)
  · exact h.of_view (park_breakView _)
  · exact h

theorem AlarmsMatch.dwellEffect (h : AlarmsMatch s) (same : Bool) : AlarmsMatch (dwellEffect same s) := by
  unfold Machine.dwellEffect
  split
  · split
    · exact h.of_view (idleStart_breakView _ _)
    · exact h
  · dsimp only
    split
    · exact (h.endScan _).of_view (enterPositioning_breakView _ _)
    · exact (h.endScan _).of_view (park_breakView _)
  · exact h.of_view (enterPositioning_breakView _ _)
  · exact h.of_view (enterPositioning_breakView _ _)
  · split
    · exact h
    · exact h.of_view (enterPositioning_breakView _ _)
  · exact h

theorem AlarmsMatch.takeResumeSheet (h : AlarmsMatch s) : AlarmsMatch (takeResumeSheet s).1 := by
  unfold Machine.takeResumeSheet
  split
  · exact h
  · rename_i hp
    split
    · exact h
    · have opened : s.mon.state.open = true := by
        cases hm : s.mon.state <;> simp_all [State.permits, BreakState.permits, BreakState.open]
      exact (h.enterRecovery opened _).of_view (traverseRecovered_breakView _)

theorem AlarmsMatch.takeCommitSetup (h : AlarmsMatch s) (p : PortId) (target : Target) :
    AlarmsMatch (takeCommitSetup p target s).1 := by
  unfold Machine.takeCommitSetup
  dsimp only
  split
  · exact h
  · split
    · exact h
    · split
      · exact h
      · exact ((h.of_view (commitTaken_breakView p target s)).enableAtCommit _ _).enableAtCommit _ _

theorem takeWriteSetup_breakView (p : PortId) (item : BitVec 8) (value : Offered) (s : State) :
    (takeWriteSetup p item value s).1.breakView = s.breakView := by
  unfold takeWriteSetup
  split
  · rfl
  · split
    · rfl
    · rfl
    · unfold stage
      dsimp only
      split <;> rfl

theorem takeReadProfile_breakView (p : PortId) (tag : BitVec 8) (sel : ScanSelector) (kinds forms : BitVec 8)
    (first last : BitVec 16) (s : State) :
    (takeReadProfile p tag sel kinds forms first last s).1.breakView = s.breakView := by
  unfold takeReadProfile
  dsimp only
  split
  · rfl
  · split
    · rfl
    · split <;> rfl

theorem AlarmsMatch.carryOut (h : AlarmsMatch s) (p : PortId) (tag : BitVec 8) (r : Request) :
    AlarmsMatch (carryOut p tag r s).1 := by
  cases r <;> dsimp only [Machine.carryOut]
  case scanStart =>
    unfold takeScanStart
    split
    · exact h.of_view (startEffect_breakView _)
    · exact h
  case scanStop => exact AlarmsMatch.stopEffect (s := s.setIntent .off) h
  case dwellAt => exact AlarmsMatch.dwellEffect (s := (s.setIntent .dwell).onTrav _) h _
  case standardizeNow => exact h.of_view (standardizeEffect_breakView _)
  case clearFault =>
    unfold takeClearFault
    split
    · exact h.of_view (park_breakView _)
    · exact h
  case readProfile => exact h.of_view (takeReadProfile_breakView _ _ _ _ _ _ _ _)
  case resumeSheet => exact h.takeResumeSheet
  case acknowledgeAlarm id => exact h.takeAcknowledge p id
  case writeSetup => exact h.of_view (takeWriteSetup_breakView _ _ _ _)
  case readSetup =>
    unfold takeReadSetup
    split <;> exact h
  case commitSetup target => exact h.takeCommitSetup p target
  case subscribe =>
    unfold takeSubscribe
    split <;> exact h
  case readTallies =>
    unfold takeReadTallies
    dsimp only
    split <;> exact h
  all_goals exact h

/-! ### The engine and the end of a sending (R163 to R167) -/

theorem AlarmsMatch.takeRequest (h : AlarmsMatch s) (p : PortId) (r : Queued) : AlarmsMatch (takeRequest p r s) :=
  AlarmsMatch.carryOut (s := s.onPort p Port.releaseHold) h p r.tag r.req

theorem AlarmsMatch.pump (h : AlarmsMatch s) (p : PortId) : AlarmsMatch (pump p s) := by
  unfold Machine.pump
  split
  · exact AlarmsMatch.takeRequest (s := s.onPort p _) h p _
  · exact h

theorem AlarmsMatch.requestArrives (h : AlarmsMatch s) (p : PortId) (r : Queued) :
    AlarmsMatch (requestArrives p r s) := by
  have refused : AlarmsMatch (refuseFull p r s) := by
    unfold refuseFull
    split <;> exact h
  have arrived : AlarmsMatch (arrive p r s) := by
    unfold arrive
    dsimp only
    split
    · exact h.takeRequest p r
    · split
      · exact AlarmsMatch.pump (s := enqueue p r s) h p
      · exact refused.pump p
  unfold Machine.requestArrives
  split
  · exact arrived
  · exact h

theorem AlarmsMatch.frameDone (h : AlarmsMatch s) (p : PortId) (x : Sending) : AlarmsMatch (frameDone p x s) := by
  unfold Machine.frameDone
  refine AlarmsMatch.pump ?_ p
  split <;> exact h

/-! ### Whole commands and steps -/

theorem alarmsMatch_afterReset (brk tail : Bool) (lines : PerPort Bool) :
    AlarmsMatch (State.afterReset brk tail lines) :=
  ⟨Nat.zero_le _, rfl, by simp [State.afterReset], rfl⟩

theorem AlarmsMatch.lineChange (h : AlarmsMatch s) (l : Line) (level : Bool) : AlarmsMatch (lineChange l level s) := by
  have changed : AlarmsMatch (s.onLine l fun v => { v with level := level }) := h.of_view (onLine_breakView _ _ _)
  unfold Machine.lineChange
  dsimp only
  split
  · exact changed
  · split
    · exact (changed.takeLevel l).lineEdge l
    · exact changed.of_view (onLine_breakView _ _ _)

theorem AlarmsMatch.debounced (h : AlarmsMatch s) (l : Line) : AlarmsMatch (debounced l s) := by
  unfold Machine.debounced
  split
  · exact h.takeLevel l
  · exact (h.takeLevel l).lineEdge l

theorem AlarmsMatch.arrival (h : AlarmsMatch s) : AlarmsMatch (arrival s) := by
  unfold Machine.arrival
  split
  · exact h.of_view (arrivalAtPark_breakView s)
  · exact h.arrivalAtTarget
  · exact h.scanEndEvent
  · exact h

theorem AlarmsMatch.finalizeSet (h : AlarmsMatch s) (i : SetId) : AlarmsMatch (finalizeSet i s) := by
  have passed : AlarmsMatch (passOn i { s with ring := s.ring.add (formEntry (s.edge.get i) s.ring s.mon.state) }) := by
    unfold passOn
    dsimp only
    split <;> exact h
  unfold Machine.finalizeSet
  dsimp only
  refine AlarmsMatch.of_view ?_ (notify_breakView _ _)
  split
  · exact passed.startScan _
  · exact passed

theorem AlarmsMatch.exec (h : AlarmsMatch s) (c : Instr) (ht : exec c s = .next t) : AlarmsMatch t := by
  have next {u : State} (e : (Host.Outcome.next u : Answered) = .next t) (hu : AlarmsMatch u) : AlarmsMatch t := by
    cases e
    exact hu
  cases c <;> dsimp only [Machine.exec] at ht
  case deviceReset => exact next ht (alarmsMatch_afterReset s.mon.brk.level s.mon.tail.level
      ⟨s.ports.sp0.linkUp, s.ports.sp1.linkUp, s.ports.sp2.linkUp⟩)
  case sample f =>
    unfold execSample at ht
    split at ht
    · exact next ht h
    · exact next ht (h.sampleRecord f)
  case arrived number pos =>
    unfold execArrived at ht
    split at ht
    · exact next ht (AlarmsMatch.arrival (s := noteArrival pos (frameSeen s)) h)
    · exact next ht h
  case headStatus flags =>
    have linked : AlarmsMatch ((frameSeen s).onLink fun l => { l with headPresent := presentFlag flags }) := h
    unfold execHeadStatus at ht
    dsimp only at ht
    split at ht
    · exact next ht linked.headFault
    · exact next ht linked
  case silenceTimerExpiry =>
    have down : AlarmsMatch (linkDown s) := h
    unfold execSilenceTimerExpiry at ht
    dsimp only at ht
    split at ht
    · exact next ht h
    · split at ht
      · exact next ht down
      · exact next ht down.headFault
  case moveTimerExpiry =>
    unfold execMoveTimerExpiry at ht
    split at ht
    · exact next ht h
    · exact next ht (AlarmsMatch.headFault (s := s.onTrav _) h)
  case lineLevelChange l level =>
    unfold execLineLevelChange at ht
    split at ht
    · exact next ht h
    · exact next ht (h.lineChange l level)
  case lineDebounceExpiry l =>
    unfold execLineDebounceExpiry at ht
    split at ht
    · exact next ht h
    · exact next ht (h.debounced l)
  case finalized =>
    unfold execFinalized at ht
    split at ht
    · exact next ht (h.finalizeSet _)
    · exact next ht h
  case hold p time =>
    unfold execHold at ht
    split at ht <;> exact next ht h
  case masterHoldExpiry p =>
    unfold execMasterHoldExpiry at ht
    dsimp only at ht
    split at ht <;> exact next ht h
  case partHoldExpiry p =>
    unfold execPartHoldExpiry at ht
    split at ht <;> exact next ht h
  case portReset p tag =>
    unfold execPortReset at ht
    split at ht
    · exact next ht (h.resetPort p _ _)
    · exact next ht h
  case serviceFrameDiscarded p =>
    unfold execServiceFrameDiscarded at ht
    split at ht
    · exact next ht (h.of_view (count_breakView .framesBad 1 s))
    · exact next ht h
  case linkLineFall p =>
    unfold execLinkLineFall at ht
    split at ht
    · exact next ht (AlarmsMatch.resetPort (s := s.onPort p _) h p _ _)
    · exact next ht h
  case linkLineRise p =>
    unfold execLinkLineRise at ht
    split at ht <;> exact next ht h
  case frameSent p =>
    unfold execFrameSent at ht
    split at ht
    · exact next ht (h.frameDone p _)
    · exact next ht h
  case carriageFrameDiscarded => exact next ht h
  case carriageFrameUnknownType => exact next ht h
  all_goals exact next ht (h.requestArrives _ _)

end Sys2Proof.Machine

open Sys2Proof Sys2Proof.Machine

/-- Settles O55: the agreement is kept by each command, and does not speak of the queue that a step shortens. -/
theorem everyStepKeepsAlarmsAndBreakInStep : Obligations.EveryStepKeepsAlarmsAndBreakInStep := by
  intro s t h ht
  unfold step at ht
  split at ht
  · cases ht
    exact h
  · rename_i c rest _
    exact AlarmsMatch.exec (s := { s with pending := rest }) h c ht
end

section
/-! ## Proofs: changes of a line's level (R114, R115) -/

namespace Sys2Proof.Machine

variable {s : State} {l : Line} {level : Bool}

theorem State.onLine_onLine (s : State) (l : Line) (f g : LineState → LineState) :
    (s.onLine l f).onLine l g = s.onLine l (g ∘ f) := by
  cases l <;> rfl

theorem lineChange_disabled (he : s.setup.active.enabled l = false) :
    lineChange l level s = s.onLine l fun v => { v with level := level } := by
  simp [lineChange, he]

/-- R115: a level that is the debounced state again stops the timer. -/
theorem lineChange_equal (he : s.setup.active.enabled l = true) (hd : level = (s.mon.line l).debounced) :
    lineChange l level s = s.onLine l fun v => { v with level := level, timer := none } := by
  subst hd
  simp only [lineChange, State.onLine_setup, he, edgeAtOnce, compareLevel, State.onLine_mon,
    BreakMonitor.line_setLine_self, State.onLine_onLine]
  cases l <;> simp [State.onLine, State.onMon, BreakMonitor.setLine, BreakMonitor.line]

/-- R115: a level that differs from the debounced state starts the timer afresh. -/
theorem lineChange_differs (he : s.setup.active.enabled l = true) (hd : level ≠ (s.mon.line l).debounced)
    (hz : s.setup.active.lineDebounce ≠ 0) :
    lineChange l level s =
      s.onLine l fun v => { v with level := level, timer := some s.setup.active.lineDebounce } := by
  simp only [lineChange, State.onLine_setup, he, edgeAtOnce, compareLevel, State.onLine_mon,
    BreakMonitor.line_setLine_self, State.onLine_onLine, hz]
  cases l <;> simp_all [State.onLine, State.onMon, BreakMonitor.setLine, BreakMonitor.line]

/-- R115: with LINE_DEBOUNCE 0 a level that differs from the debounced state is itself the edge. -/
theorem lineChange_edge (he : s.setup.active.enabled l = true) (hd : level ≠ (s.mon.line l).debounced)
    (hz : s.setup.active.lineDebounce = 0) :
    lineChange l level s = lineEdge l (takeLevel l (s.onLine l fun v => { v with level := level })) := by
  simp [lineChange, he, edgeAtOnce, hd, hz]

/-- The timer that ran before does not matter to an edge. -/
theorem takeLevel_onLine_timer (s : State) (l : Line) (f : LineState → LineState) (d : Option Nat) :
    takeLevel l (s.onLine l fun v => { f v with timer := d }) = takeLevel l (s.onLine l f) := by
  cases l <;> rfl

end Sys2Proof.Machine

open Sys2Proof Sys2Proof.Machine

/-- Settles O31: the branches of R114 and R115 that a change of level takes. -/
theorem lineLevelsAreDebounced : Obligations.LineLevelsAreDebounced := by
  intro l level s before enabled changed after hl
  have line : before = s.mon.line l := by cases l <;> rfl
  have enable : enabled = s.setup.active.enabled l := by cases l <;> rfl
  have relined (f : LineState → LineState) : s.onLine l f = changed (f before) := by cases l <;> rfl
  have changes : exec (.lineLevelChange l level) s = .next (settle (lineChange l level s)) := if_neg (line ▸ hl)
  rw [changes, enable]
  refine ⟨fun he => ?_, fun he hd => ?_, fun he hd hz => ?_, fun he hd hz => ?_⟩
  · rw [lineChange_disabled he, relined]
  · rw [lineChange_equal he (line ▸ hd), relined]
  · rw [lineChange_differs he (line ▸ hd) hz, relined]
  · have edge := takeLevel_onLine_timer s l (fun v => { v with level := level }) (some 0)
    rw [lineChange_edge he (line ▸ hd) hz, ← edge, ← relined fun v => { v with level := level, timer := some 0 },
      exec_lineDebounceExpiry_edge (by simp) (by simpa using line ▸ hd)]
end

section
/-! ## Proofs: the proof of the sheet (R126) -/

namespace Sys2Proof.Machine

variable {older newer : List Alarm} {r : Alarm}

theorem find_active (ha : r.state = .active) (others : ∀ a ∈ older ++ newer, a.state = .cleared) :
    (older ++ r :: newer).find? (fun a => decide (a.state = .active)) = some r := by
  have none : older.find? (fun a => decide (a.state = .active)) = none :=
    List.find?_eq_none.2 fun a m => by simp [others a (List.mem_append_left _ m)]
  simp [List.find?_append, none, ha]

/-- A change of the one ACTIVE record. -/
theorem onActive_one (f : Alarm → Alarm) (ha : r.state = .active)
    (others : ∀ a ∈ older ++ newer, a.state = .cleared) :
    onActive f (older ++ r :: newer) = older ++ f r :: newer := by
  have same {l : List Alarm} (hl : ∀ a ∈ l, a.state = .cleared) : onActive f l = l := by
    conv => rhs; rw [← List.map_id l]
    exact List.map_congr_left fun a m => by simp [hl a m]
  have ho := same fun a m => others a (List.mem_append_left _ m)
  have hn := same fun a m => others a (List.mem_append_right _ m)
  unfold onActive at *
  rw [List.map_append, List.map_cons, ho, hn, if_pos ha]

/-- R132: of the records with an id that no other has, the one record leaves when it is covered. -/
theorem removeCovered_one {id : Nat} (hr : r.id = id) (others : ∀ a ∈ older ++ newer, a.id ≠ id) :
    removeCovered id (older ++ r :: newer) = older ++ (if r.covered then [] else [r]) ++ newer := by
  have same {l : List Alarm} (hl : ∀ a ∈ l, a.id ≠ id) : removeCovered id l = l :=
    List.filter_eq_self.2 fun a m => by simp [hl a m]
  have ho := same fun a m => others a (List.mem_append_left _ m)
  have hn := same fun a m => others a (List.mem_append_right _ m)
  unfold removeCovered at *
  rw [List.filter_append, List.filter_cons, ho, hn]
  cases hc : r.covered <;> simp [hr]

/-- R126 step 2, R132: the one ACTIVE record, of an id that no other has, becomes CLEARED and leaves when every port it
needs has acknowledged it. -/
theorem clearBreakAlarm_one {s : State} (hl : s.alarms.records = older ++ r :: newer) (ha : r.state = .active)
    (others : ∀ a ∈ older ++ newer, a.state = .cleared) (ids : ∀ a ∈ older ++ newer, a.id ≠ r.id) :
    clearBreakAlarm s =
      { notify (.alarm .cleared { r with state := .cleared })
          { s with alarms := { s.alarms with records := older ++ { r with state := .cleared } :: newer } } with
        alarms := { s.alarms with
          records := older ++ (if r.needed.subset r.acked then [] else [{ r with state := .cleared }]) ++ newer } } := by
  have covered : ({ r with state := .cleared } : Alarm).covered = r.needed.subset r.acked := by simp [Alarm.covered]
  have active : s.activeAlarm = some r := by rw [State.activeAlarm, hl, find_active ha others]
  rw [← covered, ← removeCovered_one (r := { r with state := .cleared }) rfl ids]
  simp only [clearBreakAlarm, active, State.onAlarms, hl, onActive_one _ ha others, notify_alarms]

end Sys2Proof.Machine

open Sys2Proof Sys2Proof.Machine

/-- Settles O34: the report by the break state, and the proof of the sheet by the one ACTIVE record. -/
theorem completeScansProveTheSheet : Obligations.CompleteScansProveTheSheet := by
  intro width s good
  have isGood : goodRecovery s width = true ↔ good := by
    unfold goodRecovery
    simp only [good]
    cases s.mon.refWidth <;> simp
  refine ⟨fun hu => ?_, fun ho => ?_, fun hr hg => ?_, fun hr hg hn => ?_, ?_⟩
  · rw [reportComplete, hu]
    rfl
  · exact (reportComplete_other width (by rcases ho with h | h | h <;> simp [h])).1
  · rw [reportComplete, hr]
    exact if_neg fun h => hg (isGood.1 h)
  · rw [reportComplete, hr]
    dsimp only
    rw [if_pos (isGood.2 hg)]
    exact if_neg (Nat.not_le.2 hn)
  · intro older r newer hr hg hn hl ha others kept told
    have cleared : ∀ a ∈ older ++ newer, a.state = .cleared := fun a m => (others a m).1
    have ids : ∀ a ∈ older ++ newer, a.id ≠ r.id := fun a m => (others a m).2
    have proven : reportComplete width s = provenSheet (s.onMon fun m => { m with recovery := m.recovery + 1 }) := by
      rw [reportComplete, hr]
      dsimp only
      rw [if_pos (isGood.2 hg)]
      exact if_pos hn
    have noActive : (older ++ kept ++ newer).find? (fun a => decide (a.state = .active)) = none := by
      refine List.find?_eq_none.2 fun a m => ?_
      have held : a ∈ kept → a.state = .cleared := by
        intro m
        simp only [kept] at m
        split at m <;> simp_all
      simp only [List.mem_append] at m cleared
      rcases m with (m | m) | m
      · simp [cleared a (.inl m)]
      · simp [held m]
      · simp [cleared a (.inr m)]
    rw [proven, provenSheet, clearBreakAlarm_one (s := (s.onMon _).onMon _) hl ha cleared ids]
    have silent (u : State) (hu : u.alarms.records = older ++ kept ++ newer) : u.rebreaks = 0 := by
      rw [State.rebreaks, State.activeAlarm, hu, noActive]
      rfl
    rw [breakNotice, silent _ rfl]
    simp [State.onMon, kept, told]
end

section
/-! ## Proofs: port resets (R134, R173, R174) -/

namespace Sys2Proof.Machine

/-- R132: one set of ports is in another, port by port. -/
theorem PortSet.subset_eq_all (a b : PortSet) :
    a.subset b = [PortId.sp0, .sp1, .sp2].all fun x => !a.get x || b.get x := by
  simp [PortSet.subset, PerPort.get, Bool.and_assoc]

/-- R174: a port reset, with the ring's and the alarm list's part written out. -/
theorem resetPort_eq (p : PortId) (answer : Option (BitVec 8)) (sending : Option Sending) (s : State) :
    resetPort p answer sending s =
      { s with
        ports := s.ports.set p ((s.ports.get p).resetState answer sending)
        ring := s.ring.release p
        setup := { s.setup with staging := s.setup.staging.set p [] }
        alarms := { s.alarms with records := sweepAlarms p s.alarms.records } } :=
  rfl

end Sys2Proof.Machine

open Sys2Proof Sys2Proof.Machine

/-- Settles O53: the port reset of R174 in the states that the two commands leave the port's link in. -/
theorem portResetsClearOnePort : Obligations.PortResetsClearOnePort := by
  intro p s q pins drop ports covered leaves
  have released : s.ring.release p = { s.ring with
      pins := pins
      entries := s.ring.entries.filter fun e =>
        !e.marked || ports.any fun x => decide (pins.get x = some e.header.scan) } :=
    release_eq s.ring p
  have swept : sweepAlarms p s.alarms.records = (s.alarms.records.map drop).filter (fun r => !covered r) := by
    rw [sweepAlarms, show Alarm.without p = drop from rfl]
    simp only [Alarm.covered, PortSet.subset_eq_all, covered, ports]
  have reset (q' : Port) (answer : Option (BitVec 8)) (sending : Option Sending) :
      resetPort p answer sending { s with ports := s.ports.set p q' } = leaves (q'.resetState answer sending) := by
    rw [resetPort_eq, released, swept]
    simp only [PerPort.set_set, PerPort.get_set_self, leaves]
  refine ⟨fun tag up => ?_, fun up => ?_, fun down => ?_⟩
  · have same := reset q (some tag) (q.sending.map (Sending.overtaken tag))
    rw [PerPort.set_get] at same
    refine (if_pos up).trans (congrArg (fun t => Host.Outcome.next (settle t)) (same.trans (congrArg leaves ?_)))
    rw [Port.resetState, up]
    rfl
  · exact (if_pos up).trans (congrArg Host.Outcome.next (reset { q with linkUp := false } none none))
  · exact if_neg (ne_true_of_eq_false down)
end

section
/-! ## Proofs: alarms raised and acknowledged (R128, R131 to R133) -/

namespace Sys2Proof.Machine

variable {s : State} {older newer : List Alarm} {r : Alarm}

/-- R128, R132: a raise under an id that no record carries, `room` being the records that it leaves. -/
theorem raiseAlarm_eq {kind : AlarmKind} {cause : Option Cause} {scan : Nat} {pos : Option Nat} {room : List Alarm}
    (hroom : alarmRoom s.alarms.records = room) (ids : ∀ a ∈ s.alarms.records, a.id ≠ s.alarms.nextId) :
    raiseAlarm kind cause scan pos s =
      { notify (.alarm .raised (newAlarm kind cause scan pos s))
          { s with alarms := ⟨room ++ [newAlarm kind cause scan pos s], nextAlarmId s.alarms.nextId⟩ } with
        alarms := ⟨if kind ≠ .brk ∧ s.alarmPorts = PortSet.none then room else room ++ [newAlarm kind cause scan pos s],
          nextAlarmId s.alarms.nextId⟩ } := by
  have covered : (newAlarm kind cause scan pos s).covered = true ↔ kind ≠ .brk ∧ s.alarmPorts = PortSet.none := by
    have empty (a : PortSet) : a.subset PortSet.none = true ↔ a = PortSet.none := by
      rcases a with ⟨_ | _, _ | _, _ | _⟩ <;> decide
    rw [Alarm.covered, Bool.and_eq_true, ← empty, decide_eq_true_iff]
    exact and_congr_left fun _ => by by_cases hk : kind = .brk <;> simp [newAlarm, hk]
  have left : removeCovered s.alarms.nextId (room ++ [newAlarm kind cause scan pos s]) =
      if kind ≠ .brk ∧ s.alarmPorts = PortSet.none then room else room ++ [newAlarm kind cause scan pos s] := by
    rw [removeCovered_one (newer := []) (id := s.alarms.nextId) rfl fun a m =>
      ids a ((alarmRoom_sublist _).subset (by simpa [hroom] using m))]
    simp only [covered]
    split <;> simp
  rw [← left, raiseAlarm, hroom]
  simp only [State.onAlarms, notify_alarms]
  rfl

/-- R128 step 1: a full list loses its oldest CLEARED record. -/
theorem alarmRoom_full {l : List Alarm} (full : 8 ≤ l.length) (hl : l = older ++ r :: newer) (hr : r.state = .cleared)
    (active : ∀ a ∈ older, a.state = .active) : alarmRoom l = older ++ newer := by
  rw [alarmRoom, if_pos full, hl, List.eraseP_append_right _ fun a m => by simp [active a m]]
  simp [hr]

/-- R131: the record of an id that no other has. -/
theorem find_id {id : Nat} (hr : r.id = id) (others : ∀ a ∈ older ++ newer, a.id ≠ id) :
    (older ++ r :: newer).find? (fun a => decide (a.id = id)) = some r := by
  have none : older.find? (fun a => decide (a.id = id)) = none :=
    List.find?_eq_none.2 fun a m => by simp [others a (List.mem_append_left _ m)]
  simp [List.find?_append, none, hr]

/-- R132: a CLEARED record is covered by an acknowledgement when every other port that it needs has acknowledged it. -/
theorem Alarm.covered_ack (p : PortId) (r : Alarm) : (r.ack p).covered = true ↔ r.state = .cleared ∧
    ([PortId.sp0, .sp1, .sp2].all fun q => !r.needed.get q || r.acked.get q || decide (q = p)) = true := by
  have acked (q : PortId) : (r.acked.set p true).get q = (r.acked.get q || decide (q = p)) := by
    by_cases h : q = p
    · simp [h]
    · simp [PerPort.get_set_other _ _ _ _ h, h]
  change (decide (r.state = .cleared) && r.needed.subset (r.acked.set p true)) = true ↔ _
  simp only [PortSet.subset_eq_all, acked, Bool.and_eq_true, decide_eq_true_iff, Bool.or_assoc]

/-- R131, R132: the records after an acknowledgement of an id that one record has. -/
theorem acknowledged_one (p : PortId) {id : Nat} (hr : r.id = id) (others : ∀ a ∈ older ++ newer, a.id ≠ id) :
    removeCovered id ((older ++ r :: newer).map fun a => if a.id = id then a.ack p else a) =
      older ++ (if r.state = .cleared ∧
        ([PortId.sp0, .sp1, .sp2].all fun q => !r.needed.get q || r.acked.get q || decide (q = p)) = true
        then [] else [{ r with acked := r.acked.set p true }]) ++ newer := by
  have same {l : List Alarm} (hl : ∀ a ∈ l, a.id ≠ id) : (l.map fun a => if a.id = id then a.ack p else a) = l := by
    conv => rhs; rw [← List.map_id l]
    exact List.map_congr_left fun a m => by simp [hl a m]
  rw [List.map_append, List.map_cons, same fun a m => others a (List.mem_append_left _ m),
    same fun a m => others a (List.mem_append_right _ m), if_pos hr, removeCovered_one (r := r.ack p) hr others]
  simp only [Alarm.covered_ack]
  rfl

end Sys2Proof.Machine

open Sys2Proof Sys2Proof.Machine

/-- Settles O12: a raise into the room that the list has, and an acknowledgement by the record that it finds. -/
theorem alarmsAreRaisedAndAcknowledged : Obligations.AlarmsAreRaisedAndAcknowledged := by
  constructor
  · intro kind cause scan pos s ids ports r next stays after
    refine ⟨fun short => raiseAlarm_eq (if_neg (Nat.not_le.2 short)) ids, ?_⟩
    intro older old newer full hl cleared active
    exact raiseAlarm_eq (alarmRoom_full full hl cleared active) ids
  · intro p tag id s h
    have answers {t : State} {code : RespCode} (k : takeAcknowledge p id (taken p s) = (t, .of code .empty)) :
        exec (.acknowledgeAlarm p tag id) s = .next (replied p tag 12 code .empty t) :=
      congrArg _ (requestArrives_replied (r := .acknowledgeAlarm id) h tag rfl k)
    refine ⟨fun unknown => answers ?_, fun older newer r hl hr others => ?_⟩
    · have unfound : (taken p s).alarms.records.find? (fun r => decide (r.id = id.toNat)) = none :=
        List.find?_eq_none.2 fun r m => by simpa using unknown r m
      simp only [takeAcknowledge, unfound, Answer.refusal]
    · have found : (taken p s).alarms.records.find? (fun a => decide (a.id = id.toNat)) = some r :=
        (congrArg _ hl).trans (find_id hr others)
      refine ⟨fun unneeded => answers ?_, fun needed => answers ?_⟩
      · simp only [takeAcknowledge, found, unneeded, Bool.false_eq_true, if_false, Answer.refusal]
      · simp only [takeAcknowledge, found, needed, if_true, Answer.done, State.onAlarms]
        rw [← acknowledged_one p hr others, ← hl]
        rfl
end

section
/-! ## Proofs: line enables at a commit (R114, R115)

A commit's effect on the break line may end the scan in progress, whose end may apply an armed enable of the tail line;
the commit's own look at the tail line then finds it as that enable left it. -/

namespace Sys2Proof.Machine

variable {s t : State} {l : Line} {old : Setup}

/-- R114: a line whose enable was `was` and is `on`, where that is not itself an edge: one whose enable has changed is
DEASSERTED, with its timer running when it is enabled while its level is asserted. -/
def LineState.enabledFrom (was on : Bool) (debounce : Nat) (v : LineState) : LineState :=
  if was = on then v else ⟨v.level, false, if on && v.level then some debounce else none⟩

@[simp] theorem LineState.enabledFrom_same (on : Bool) (debounce : Nat) (v : LineState) :
    v.enabledFrom on on debounce = v := if_pos rfl

/-- R114: nothing is done for a line whose enable has not changed. -/
theorem enableAtCommit_same (h : s.setup.active.enabled l = old.enabled l) : enableAtCommit l old s = s := by
  simp [enableAtCommit, justEnabled, resetLine, h]

theorem State.onLine_congr {f g : LineState → LineState} (h : f (s.mon.line l) = g (s.mon.line l)) :
    s.onLine l f = s.onLine l g := by
  simp only [State.onLine, State.onMon, h]

theorem State.onLine_self {f : LineState → LineState} (h : f (s.mon.line l) = s.mon.line l) : s.onLine l f = s := by
  rw [State.onLine_congr (g := id) h]
  cases l <;> rfl

/-- R114: a line just disabled is DEASSERTED. -/
theorem enableAtCommit_disabled (hn : s.setup.active.enabled l = false) (ho : old.enabled l = true) :
    enableAtCommit l old s = s.levelled l false := by
  simp [enableAtCommit, justEnabled, resetLine, hn, ho, State.levelled]

/-- R114: a line just enabled is DEASSERTED, and its level is then compared with that. -/
theorem enableAtCommit_enabled (hn : s.setup.active.enabled l = true) (ho : old.enabled l = false) :
    enableAtCommit l old s =
      if edgeAtOnce l (s.levelled l false) then lineEdge l (takeLevel l (s.levelled l false))
      else compareLevel l (s.levelled l false) := by
  simp only [enableAtCommit, justEnabled, resetLine, hn, ho]
  rfl

theorem edgeAtOnce_levelled (l : Line) (s : State) :
    edgeAtOnce l (s.levelled l false) = ((s.mon.line l).level && decide (s.setup.active.lineDebounce = 0)) := by
  rw [edgeAtOnce, State.levelled, State.onLine_mon, BreakMonitor.line_setLine_self]
  cases (s.mon.line l).level <;> rfl

theorem takeLevel_levelled (h : (s.mon.line l).level = true) : takeLevel l (s.levelled l false) = s.levelled l true := by
  rw [takeLevel, State.levelled, State.onLine_onLine]
  exact State.onLine_congr (by simp [h])

/-- R114, R115: a changed enable that is not itself an edge. -/
theorem enableAtCommit_quiet (h : s.setup.active.lineDebounce ≠ 0 ∨
      (s.setup.active.enabled l = true → old.enabled l = true ∨ (s.mon.line l).level = false)) :
    enableAtCommit l old s = s.onLine l (LineState.enabledFrom (old.enabled l) (s.setup.active.enabled l)
      s.setup.active.lineDebounce) := by
  by_cases same : s.setup.active.enabled l = old.enabled l
  · rw [enableAtCommit_same same, same, State.onLine_self (LineState.enabledFrom_same _ _ _)]
  cases hn : s.setup.active.enabled l
  · have ho : old.enabled l = true := by simpa [hn] using Ne.symm same
    rw [enableAtCommit_disabled hn ho]
    exact State.onLine_congr (by simp [LineState.enabledFrom, ho])
  · have ho : old.enabled l = false := by simpa [hn] using Ne.symm same
    have quiet : edgeAtOnce l (s.levelled l false) = false := by
      rw [edgeAtOnce_levelled, Bool.and_eq_false_iff, decide_eq_false_iff_not]
      exact h.symm.imp (fun k => (k hn).resolve_left (ne_true_of_eq_false ho)) id
    rw [enableAtCommit_enabled hn ho, quiet, if_neg Bool.false_ne_true, compareLevel, State.levelled,
      State.onLine_onLine]
    exact State.onLine_congr (by cases hv : (s.mon.line l).level <;> simp [LineState.enabledFrom, ho, hv])

/-- R115: with LINE_DEBOUNCE 0 the enable of a line whose level is asserted is the assertion edge. -/
theorem enableAtCommit_edge (hn : s.setup.active.enabled l = true) (ho : old.enabled l = false)
    (hv : (s.mon.line l).level = true) (hz : s.setup.active.lineDebounce = 0) :
    enableAtCommit l old s = lineEdge l (s.levelled l true) := by
  rw [enableAtCommit_enabled hn ho, edgeAtOnce_levelled, takeLevel_levelled hv]
  simp [hv, hz]

/-! ### The tail line after the scan end that a commit brings about -/

/-- R114: inside a scan end, a changed enable of the tail line does what it does at a commit, since no assertion edge
of that line tells the traverse controller anything. -/
theorem enableInScanEnd_tail (old : Setup) (s : State) : enableInScanEnd .tail old s = enableAtCommit .tail old s := by
  unfold enableInScanEnd enableAtCommit
  dsimp only
  split
  · rename_i just
    obtain ⟨hn, ho⟩ : s.setup.active.enabled .tail = true ∧ old.enabled .tail = false := by
      simpa [justEnabled] using just
    have reset : resetLine .tail old s = s.levelled .tail false := by simp [resetLine, hn, ho, State.levelled]
    rw [reset]
    split
    · rename_i edge
      have level : (s.mon.line .tail).level = true := by
        rw [edgeAtOnce_levelled, Bool.and_eq_true] at edge
        exact edge.1
      rw [takeLevel_levelled level]
      rfl
    · rfl
  · rfl

/-- R114, R115: the tail line is as the change of its enable from that in `old`, if there was one, has left it. -/
def TailSettled (old : Setup) (s : State) : Prop :=
  s.setup.active.enabled .tail = old.enabled .tail ∨
    ((s.setup.active.lineDebounce ≠ 0 ∨
        (s.setup.active.enabled .tail = true → old.enabled .tail = true ∨ s.mon.tail.level = false)) ∧
      (s.mon.tail.enabledFrom (old.enabled .tail) (s.setup.active.enabled .tail) s.setup.active.lineDebounce =
        s.mon.tail)) ∨
    (s.setup.active.enabled .tail = true ∧ s.setup.active.lineDebounce = 0 ∧ s.mon.tail = ⟨true, true, none⟩ ∧
      s.mon.state ≠ .brk)

theorem TailSettled.of_eq (h : TailSettled old s) (hm : t.mon = s.mon) (hs : t.setup.active = s.setup.active) :
    TailSettled old t := by
  simpa only [TailSettled, hm, hs] using h

/-- A second look at an enable that has been acted on finds nothing to do. -/
theorem TailSettled.enableAtCommit (h : TailSettled old s) : enableAtCommit .tail old s = s := by
  rcases h with same | ⟨quiet, left⟩ | ⟨hn, hz, line, notBrk⟩
  · exact enableAtCommit_same same
  · rw [enableAtCommit_quiet quiet]
    exact State.onLine_self left
  · cases ho : old.enabled .tail
    · have asserted : s.levelled .tail true = s :=
        State.onLine_self (by simp [BreakMonitor.line, line])
      rw [enableAtCommit_edge hn ho (by simp [BreakMonitor.line, line]) hz, asserted]
      exact lineEdge_tail_quiet (fun _ => notBrk) fun hd => by simp [line] at hd
    · exact enableAtCommit_same (hn.trans ho.symm)

/-- R119: an assertion edge of the tail line leaves no BREAK state. -/
theorem tailSettled_enableAtCommit (old : Setup) (s : State) : TailSettled old (Machine.enableAtCommit .tail old s) := by
  by_cases quiet : s.setup.active.lineDebounce ≠ 0 ∨
      (s.setup.active.enabled .tail = true → old.enabled .tail = true ∨ (s.mon.line .tail).level = false)
  · rw [enableAtCommit_quiet quiet]
    refine .inr (.inl ⟨?_, ?_⟩)
    · refine quiet.imp id fun k hn => (k hn).imp id fun hv => ?_
      have level (w o : Bool) (d : Nat) (v : LineState) : (v.enabledFrom w o d).level = v.level := by
        unfold LineState.enabledFrom
        split <;> rfl
      exact (level _ _ _ _).trans hv
    · have twice (w o : Bool) (d : Nat) (v : LineState) :
          (v.enabledFrom w o d).enabledFrom w o d = v.enabledFrom w o d := by
        unfold LineState.enabledFrom
        split <;> simp_all
      exact twice _ _ _ _
  · obtain ⟨hz, hn, ho, hv⟩ : s.setup.active.lineDebounce = 0 ∧ s.setup.active.enabled .tail = true ∧
        old.enabled .tail = false ∧ (s.mon.line .tail).level = true := by
      simpa using quiet
    have edge : Machine.enableAtCommit .tail old s = edgeEffect .tail (s.levelled .tail true) :=
      enableAtCommit_edge hn ho hv hz
    have line : (s.levelled .tail true).mon.tail = ⟨true, true, none⟩ := by
      have : s.mon.tail.level = true := hv
      simp [State.levelled, BreakMonitor.setLine, BreakMonitor.line, this]
    rw [edge]
    by_cases hb : s.mon.state = .brk
    · have threading : edgeEffect .tail (s.levelled .tail true) = enterThreading (s.levelled .tail true) :=
        if_pos ⟨rfl, rfl, hb⟩
      rw [threading]
      exact .inr (.inr ⟨by simpa [enterThreading, State.levelled] using hn,
        by simpa [enterThreading, State.levelled] using hz, by simpa [enterThreading] using line,
        by simp [enterThreading]⟩)
    · have stays : edgeEffect .tail (s.levelled .tail true) = s.levelled .tail true := if_neg fun k => hb k.2.2
      rw [stays]
      exact .inr (.inr ⟨hn, hz, line, hb⟩)

theorem breakCause_setup (cause : Cause) (scan : Nat) (pos : Option Nat) (s : State) :
    (breakCause cause scan pos s).setup = s.setup := by
  by_cases hp : s.permits = true
  · rw [breakCause_eq cause scan pos s hp]
    exact (onlyNotices_breakTaken cause scan pos s).setup
  · rw [breakCause_of_not_permits cause scan pos hp]

/-- R114, R152: an armed enable that a scan's end applies has been acted on there. -/
theorem tailSettled_endScan {code : EndCode} (hc : code ≠ .complete)
    (he : s.setup.active.enabled .tail = old.enabled .tail) : TailSettled old (endScan code s) := by
  have setup : (reportScanEnd code 0 (freeAccumulating s)).setup = s.setup := by
    rw [freeAccumulating_eq, reportScanEnd_eq code 0 _ hc]
    exact (onlyNotices_scanEndNoted code _).setup
  have settled := tailSettled_enableAtCommit (reportScanEnd code 0 (freeAccumulating s)).setup.active
  simp only [TailSettled, setup, he] at settled
  unfold endScan applyScanEnd
  dsimp only
  rw [enableInScanEnd_tail, setup]
  exact settled _

/-- R22: what a break makes of the traverse leaves the tail line as its enable has left it. -/
theorem tailSettled_lineEdge_brk (hd : s.mon.brk.debounced = true)
    (he : s.setup.active.enabled .tail = old.enabled .tail) : TailSettled old (lineEdge .brk s) := by
  have parked {u : State} (h : TailSettled old u) : TailSettled old (park u) := h.of_eq (by simp [park]) (by simp [park])
  by_cases hp : s.permits = true
  · have broke : lineEdge .brk s = traverseBreak (breakCause .line s.trav.scanNumber none s) := by
      simp [lineEdge, edgeEvent, edgeEffect, BreakMonitor.line, hd, hp, tellTraverse]
    have he' : (breakCause .line s.trav.scanNumber none s).setup.active.enabled .tail = old.enabled .tail := by
      rw [breakCause_setup, he]
    rw [broke]
    generalize breakCause .line s.trav.scanNumber none s = u at he'
    unfold traverseBreak
    split
    · split
      · exact parked (tailSettled_endScan (by decide) he')
      · exact .inl he'
    · exact parked (.inl he')
    · exact parked (.inl he')
    · exact parked (.inl he')
    · exact .inl he'
  · have quiet : lineEdge .brk s = s := by
      simp [lineEdge, edgeEvent, edgeEffect, BreakMonitor.line, hd, hp, tellTraverse]
    rw [quiet]
    exact .inl he

/-! ### The two enables of a commit (log entry 8) -/

/-- R114: a commit whose enables are no edges changes the two lines alone. -/
theorem enablesAtCommit_quiet
    (h : s.setup.active.lineDebounce ≠ 0 ∨
      ((s.setup.active.breakLineEnable = true → old.breakLineEnable = true ∨ s.mon.brk.level = false) ∧
        (s.setup.active.tailLineEnable = true → old.tailLineEnable = true ∨ s.mon.tail.level = false))) :
    enableAtCommit .tail old (enableAtCommit .brk old s) =
      { s with mon := { s.mon with
          brk := s.mon.brk.enabledFrom old.breakLineEnable s.setup.active.breakLineEnable s.setup.active.lineDebounce
          tail := s.mon.tail.enabledFrom old.tailLineEnable s.setup.active.tailLineEnable
            s.setup.active.lineDebounce } } := by
  rw [enableAtCommit_quiet (l := .brk) (h.imp id And.left)]
  exact enableAtCommit_quiet (l := .tail) (s := s.onLine .brk _) (h.imp id And.right)

/-- R114, R115: a commit whose enable of the break line is an edge. -/
theorem enablesAtCommit_brk (hz : s.setup.active.lineDebounce = 0) (hn : s.setup.active.breakLineEnable = true)
    (ho : old.breakLineEnable = false) (hv : s.mon.brk.level = true)
    (ht : s.setup.active.tailLineEnable = old.tailLineEnable) :
    enableAtCommit .tail old (enableAtCommit .brk old s) = lineEdge .brk (s.levelled .brk true) := by
  rw [enableAtCommit_edge (l := .brk) hn ho hv hz]
  exact (tailSettled_lineEdge_brk (s := s.levelled .brk true) rfl ht).enableAtCommit

/-- R114, R115: a commit whose enable of the tail line is an edge. -/
theorem enablesAtCommit_tail (hz : s.setup.active.lineDebounce = 0) (hn : s.setup.active.tailLineEnable = true)
    (ho : old.tailLineEnable = false) (hv : s.mon.tail.level = true)
    (hb : s.setup.active.breakLineEnable = old.breakLineEnable) :
    enableAtCommit .tail old (enableAtCommit .brk old s) = lineEdge .tail (s.levelled .tail true) := by
  rw [enableAtCommit_same (l := .brk) hb, enableAtCommit_edge (l := .tail) hn ho hv hz]

end Sys2Proof.Machine
end

section
/-! ## Proofs: COMMIT SETUP (R139, R144 to R149, R153) -/

namespace Sys2Proof.Machine

variable {s t : State} {l : List Staged} {armed : List Armed} {p : PortId} {target : Target}

/-! ### The constraints (R139, R144) -/

theorem firstFailing_some {a : Setup} {n : Nat} (h1 : 1 ≤ n) (h6 : n ≤ 6) (fails : constraintHolds a n = false)
    (before : ∀ m, m < n → constraintHolds a m = true) : firstFailing a = some n := by
  have split : [1, 2, 3, 4, 5, 6] = (List.range' 1 (n - 1)) ++ n :: List.range' (n + 1) (6 - n) := by
    interval_cases n <;> rfl
  rw [firstFailing, split, List.find?_eq_some_iff_append]
  refine ⟨by simp [fails], _, _, rfl, fun m hm => ?_⟩
  have lt : m < n := by
    have := List.mem_range'_1.1 hm
    omega
  simp [before m lt]

theorem firstFailing_none {a : Setup} (h : ∀ n, constraintHolds a n = true) : firstFailing a = none := by
  simp [firstFailing, h]

/-- R144: the first item that the constraint names of those that the list holds. -/
theorem offendingItem_of {n : Nat} {before after : List Item} {item : Item}
    (named : constraintItems n = before ++ item :: after) (held : ∃ e ∈ l, e.item = item)
    (others : ∀ i ∈ before, ∀ e ∈ l, e.item ≠ i) : offendingItem n l = item := by
  have found : (constraintItems n).find? (fun i => l.any fun e => decide (e.item = i)) = some item := by
    refine List.find?_eq_some_iff_append.2 ⟨by simpa using held, before, after, named, fun i hi => ?_⟩
    simpa using others i hi
  rw [offendingItem, found]
  rfl

/-! ### The outcomes of COMMIT SETUP (R144) -/

theorem State.scanEnded_iff (s : State) (n : Nat) :
    s.scanEnded n = true ↔ n < s.trav.scanNumber ∨ (n = s.trav.scanNumber ∧ s.trav.cur = none) := by
  simp [State.scanEnded]

theorem takeCommitSetup_empty (hl : s.setup.staging.get p = []) :
    takeCommitSetup p target s = (s, .of .done (.committed 0 0)) := by
  simp only [takeCommitSetup, hl, List.isEmpty_nil, if_true]

section

variable (hl : s.setup.staging.get p = l) (some : l ≠ [])
include hl some

theorem takeCommitSetup_inconsistent {n : Nat} (hf : firstFailing (prospective s.setup l) = .some n) :
    takeCommitSetup p target s = (s, .of .inconsistent (.offender n (offendingItem n l))) := by
  simp only [takeCommitSetup, hl, List.isEmpty_eq_false_iff.2 some, Bool.false_eq_true, if_false, hf]

theorem takeCommitSetup_tooLate (hf : firstFailing (prospective s.setup l) = none) (late : tooLate s target = true) :
    takeCommitSetup p target s = (s, .of .tooLate .empty) := by
  simp only [takeCommitSetup, hl, List.isEmpty_eq_false_iff.2 some, Bool.false_eq_true, if_false, hf, late, if_true,
    Answer.refusal]

theorem takeCommitSetup_taken (hf : firstFailing (prospective s.setup l) = none) (inTime : tooLate s target = false) :
    takeCommitSetup p target s =
      (enableAtCommit .tail s.setup.active (enableAtCommit .brk s.setup.active (commitTaken p target s)),
        .of .done (.committed (l.filter (appliesAtOnce target)).length
          (l.length - (l.filter (appliesAtOnce target)).length))) := by
  simp only [takeCommitSetup, hl, List.isEmpty_eq_false_iff.2 some, Bool.false_eq_true, if_false, hf, inTime, commit]

end

/-! ### The armed set (R146, R147, R149) -/

theorem Item.id_injective : Function.Injective Item.id := by
  intro i j h
  have mem (i : Item) : i ∈ Item.all := by cases i <;> decide
  exact (List.idxOf_inj (mem i)).1 (Nat.succ.inj h)

theorem mem_insertArmed {e x : Armed} : x ∈ insertArmed e armed ↔ x = e ∨ x ∈ armed := by
  induction armed with
  | nil => simp [insertArmed]
  | cons a rest ih =>
    unfold insertArmed
    split
    · simp
    · rw [List.mem_cons, ih, List.mem_cons]
      tauto

theorem mem_insertAll {new : List Armed} {x : Armed} :
    x ∈ new.foldl (fun acc e => insertArmed e acc) armed ↔ x ∈ armed ∨ x ∈ new := by
  induction new generalizing armed with
  | nil => simp
  | cons e rest ih =>
    rw [List.foldl_cons, ih, mem_insertArmed, List.mem_cons]
    tauto

/-- R149: ascending item id. -/
abbrev Ascending (armed : List Armed) : Prop := (armed.map fun e => e.item.id).Pairwise (· < ·)

theorem ascending_insertArmed {e : Armed} (h : Ascending armed) (new : ∀ a ∈ armed, a.item ≠ e.item) :
    Ascending (insertArmed e armed) := by
  simp only [Ascending, List.pairwise_map] at *
  induction armed with
  | nil => simp [insertArmed]
  | cons a rest ih =>
    obtain ⟨first, later⟩ := List.pairwise_cons.1 h
    unfold insertArmed
    split
    · rename_i before
      refine List.pairwise_cons.2 ⟨fun x hx => ?_, h⟩
      rcases List.mem_cons.1 hx with rfl | hx
      · exact before
      · exact before.trans (first x hx)
    · rename_i after
      refine List.pairwise_cons.2 ⟨fun x hx => ?_, ih (fun x hx => new x (List.mem_cons_of_mem _ hx)) later⟩
      rcases mem_insertArmed.1 hx with rfl | hx
      · have ne : a.item.id ≠ x.item.id := fun k => new a List.mem_cons_self (Item.id_injective k)
        omega
      · exact first x hx

theorem ascending_insertAll {new : List Armed} (h : Ascending armed) (distinct : (new.map Armed.item).Nodup)
    (fresh : ∀ e ∈ new, ∀ a ∈ armed, a.item ≠ e.item) :
    Ascending (new.foldl (fun acc e => insertArmed e acc) armed) := by
  induction new generalizing armed with
  | nil => exact h
  | cons e rest ih =>
    obtain ⟨once, distinct⟩ := List.nodup_cons.1 distinct
    refine ih (ascending_insertArmed h (fresh e List.mem_cons_self)) distinct fun x hx a ha => ?_
    rcases mem_insertArmed.1 ha with rfl | ha
    · exact fun k => once (k ▸ List.mem_map_of_mem hx)
    · exact fresh x (List.mem_cons_of_mem _ hx) a ha

/-- R146, R147: the armed set after a commit. -/
theorem mem_armAll {e : Armed} : e ∈ armAll p target l armed ↔
    (e ∈ armed ∧ ∀ x ∈ l, x.item ≠ e.item) ∨
      ∃ x ∈ l, appliesAtOnce target x = false ∧ e = ⟨x.item, x.value, target, p⟩ := by
  rw [armAll, mem_insertAll]
  refine or_congr ?_ ?_
  · simp [List.mem_filter]
  · simp only [List.mem_map, List.mem_filter, Bool.not_eq_true', and_assoc]
    exact exists_congr fun x => and_congr_right fun _ => and_congr_right fun _ => eq_comm

theorem ascending_armAll (h : Ascending armed) (distinct : (l.map Staged.item).Nodup) :
    Ascending (armAll p target l armed) := by
  refine ascending_insertAll ?_ ?_ ?_
  · exact List.Pairwise.sublist (List.filter_sublist.map _) h
  · rw [List.map_map]
    exact distinct.sublist (List.filter_sublist.map _)
  · intro e he a ha
    obtain ⟨x, hx, rfl⟩ := List.mem_map.1 he
    have kept := (List.mem_filter.1 ha).2
    simp only [Bool.not_eq_true', List.any_eq_false, decide_eq_true_eq] at kept
    exact fun k => kept x (List.mem_filter.1 hx).1 k.symm

/-! ### The effects of a commit that is taken (R146 to R148, R153) -/

/-- R155: an apply event of IMMEDIATE values leaves the generation. -/
theorem applyValues_immediate {now : List Staged} (h : ∀ e ∈ now, e.item.cls = .immediate) (point : ApplyPoint)
    (s : State) : applyValues (now.map Staged.pair) point s =
      if now = [] then s
      else notify (.setupApplied s.setup.generation now.length point s.trav.scanNumber)
        { s with setup := { s.setup with active := now.foldl (fun a e => a.put e.item e.value) s.setup.active } } := by
  have unchanged : (now.map Staged.pair).any (changes s.setup.active) = false := by
    simp only [List.any_map, List.any_eq_false, Function.comp_apply]
    intro e he
    simp [changes, Staged.pair, h e he]
  by_cases none : now = []
  · simp [applyValues, none]
  · have some : (now.map Staged.pair).isEmpty = false := by simpa using none
    simp only [applyValues, some, none, unchanged, Bool.false_eq_true, if_false, List.length_map]
    simp only [State.onSetup, Setup.overlay, List.foldl_map]
    rfl

theorem onlyNotices_notifySuperseded (armed : List Armed) (l : List Staged) (p : PortId) (target : Target) (q : PortId)
    (s : State) : OnlyNotices [] s (notifySuperseded armed l p target q s) := by
  unfold notifySuperseded
  dsimp only
  split
  · exact .refl [] s
  · exact onlyNotices_queueAt [] _ q s

/-- R148: the items on which a commit supersedes another port. -/
theorem supersededItems_eq (armed : List Armed) (l : List Staged) (p q : PortId) :
    supersededItems armed l p q = Item.all.filter fun i =>
      decide (q ≠ p) && l.any (fun e => decide (e.item = i)) &&
        armed.any (fun e => decide (e.item = i ∧ e.port = q)) := by
  unfold supersededItems
  split
  · rename_i same
    simp [same]
  · rename_i other
    exact List.filter_congr fun i _ => by simp [Ne.symm other]

/-- R153: the group is due when it has an entry and every target of it is reached. -/
theorem State.groupDue_eq {reached : Target → Bool} (h : s.reached = reached) : s.groupDue =
    (decide (s.setup.armed.filter (fun e => decide (e.item.cls = .atStandardize)) ≠ []) &&
      (s.setup.armed.filter (fun e => decide (e.item.cls = .atStandardize))).all fun e => reached e.target) := by
  subst h
  rw [State.groupDue, State.armedOf]
  cases s.setup.armed.filter fun e => decide (e.item.cls = .atStandardize) <;> rfl

/-- R153: the test after a commit, which only a commit of an AT_STANDARDIZE item makes. -/
theorem groupTested_eq (was : Bool) (s : State) (l : List Staged) :
    (if l.any (fun e => decide (e.item.cls = .atStandardize)) then testGroup was s else s) =
      if (∃ e ∈ l, e.item.cls = .atStandardize) ∧ was = false ∧ s.groupDue = true then
        if s.trav.state = .standardizing then { s with setup := { s.setup with groupMark := true } }
        else { s with trav := { s.trav with stdDue := true } }
      else s := by
  unfold testGroup
  by_cases any : ∃ e ∈ l, e.item.cls = .atStandardize
  · have any' : (l.any fun e => decide (e.item.cls = .atStandardize)) = true := by simpa using any
    cases was <;> cases s.groupDue <;> simp only [any, any'] <;> rfl
  · have none : (l.any fun e => decide (e.item.cls = .atStandardize)) = false := by simpa using any
    rw [none, if_neg Bool.false_ne_true, if_neg fun k => any k.1]

end Sys2Proof.Machine
end

section
open Sys2Proof Sys2Proof.Machine

/-- Settles O48: the refusals in R144's order, and the commit that is taken by its effects in the order of log entry 8. -/
theorem commitsAreCheckedThenTaken : Obligations.CommitsAreCheckedThenTaken := by
  intro p tag target s h l armed a holds named late once
  have answers {t : State} {code : RespCode} {body : RespBody}
      (k : takeCommitSetup p target (taken p s) = (t, .of code body)) :
      exec (.commitSetup p tag target) s = .next (replied p tag 16 code body t) :=
    congrArg _ (requestArrives_replied (r := .commitSetup target) h tag rfl k)
  have overlaid : prospective (taken p s).setup l = a := by
    simp only [prospective, Setup.overlay, List.foldl_map]
    rfl
  have holds_iff (n : Nat) : holds n ↔ constraintHolds a n = true := by
    rcases n with _ | _ | _ | _ | _ | _ | _ | n <;> simp [holds, constraintHolds]
  have named_eq (n : Nat) : named n = constraintItems n := by
    rcases n with _ | _ | _ | _ | _ | _ | _ | n <;> rfl
  have late_iff : tooLate (taken p s) target = true ↔ late := by
    cases target with
    | next => simp [tooLate, late]
    | scan n => exact State.scanEnded_iff (taken p s) n.toNat
  have met (passes : ∀ n, holds n) : firstFailing (prospective (taken p s).setup l) = none :=
    overlaid ▸ firstFailing_none fun n => (holds_iff n).1 (passes n)
  refine ⟨fun none => answers (takeCommitSetup_empty none),
    fun n before item after hl h1 h6 fails passes names held others => answers ?_,
    fun hl passes isLate => answers (takeCommitSetup_tooLate (s := taken p s) rfl hl (met passes) (late_iff.2 isLate)),
    fun hl passes inTime distinct => ?_⟩
  · have failing : firstFailing a = .some n := firstFailing_some h1 h6
      (by simpa using (holds_iff n).not.1 fails) fun m hm => (holds_iff m).1 (passes m hm)
    rw [takeCommitSetup_inconsistent (s := taken p s) (l := l) rfl hl (overlaid ▸ failing),
      offendingItem_of (named_eq n ▸ names) held others]
  · intro now active line reached due lost tell
    have once_eq : appliesAtOnce target = once := by
      funext e
      simp [appliesAtOnce, once]
    refine ⟨armAll p target l s.setup.armed, fun e => ?_, fun asc => ascending_armAll asc distinct, ?_⟩
    · rw [mem_armAll, once_eq]
    intro stored applied told tested lined done
    have reached_eq {u : State} (hu : u.trav = s.trav) : u.reached = reached := by
      funext g
      cases g with
      | next => rfl
      | scan n =>
        have ended := u.scanEnded_iff n.toNat
        rw [hu] at ended
        exact Bool.eq_iff_iff.2 (ended.trans decide_eq_true_iff.symm)
    have due_eq {u : State} (hu : u.trav = s.trav) : u.groupDue = due u.setup.armed :=
      State.groupDue_eq (reached_eq hu)
    have tell_eq (q : PortId) (u : State) : notifySuperseded s.setup.armed l p target q u = tell q u := by
      simp only [notifySuperseded, supersededItems_eq, tell, lost, List.isEmpty_iff, Bool.decide_and]
    have applied_eq : applyValues ((l.filter (appliesAtOnce target)).map Staged.pair) .commit
        (((taken p s).setStaging p []).onSetup fun t => { t with armed := armAll p target l s.setup.armed }) =
          applied := by
      have immediate : ∀ e ∈ now, e.item.cls = .immediate := fun e he =>
        (of_decide_eq_true (List.mem_filter.1 he).2).2
      rw [once_eq, applyValues_immediate immediate]
      by_cases none : now = []
      · simp only [applied, if_pos none, stored, active, none]
        rfl
      · simp only [applied, if_neg none]
        rfl
    have kept : OnlyNotices [] stored told := by
      have noticed : OnlyNotices [] stored applied := by
        simp only [applied]
        split
        · exact .refl [] _
        · exact onlyNotices_notify [] _ _
      simp only [told, ← tell_eq]
      exact ((noticed.trans (onlyNotices_notifySuperseded _ _ _ _ _ _)).trans
        (onlyNotices_notifySuperseded _ _ _ _ _ _)).trans (onlyNotices_notifySuperseded _ _ _ _ _ _)
    have tested_eq : commitTaken p target (taken p s) = tested := by
      have due_before : (taken p s).groupDue = due s.setup.armed := due_eq rfl
      have due_after : told.groupDue = due (armAll p target l s.setup.armed) := by
        rw [due_eq kept.trav, kept.setup]
      have told_eq : notifySuperseded s.setup.armed l p target .sp2 (notifySuperseded s.setup.armed l p target .sp1
          (notifySuperseded s.setup.armed l p target .sp0
            (applyValues ((l.filter (appliesAtOnce target)).map Staged.pair) .commit
              (((taken p s).setStaging p []).onSetup fun t => { t with armed := armAll p target l s.setup.armed })))) =
            told := by
        rw [applied_eq, tell_eq, tell_eq, tell_eq]
      have steps : commitTaken p target (taken p s) =
          if l.any (fun e => decide (e.item.cls = .atStandardize)) then testGroup (due s.setup.armed) told else told := by
        rw [← told_eq, ← due_before]
        rfl
      have same_state : told.trav.state = s.trav.state := congrArg Traverse.state kept.trav
      rw [steps, groupTested_eq, due_after, same_state]
    have tested_setup : tested.setup.active = active := by
      simp only [tested]
      split
      · split
        · exact congrArg SetupStore.active kept.setup
        · exact congrArg SetupStore.active kept.setup
      · exact congrArg SetupStore.active kept.setup
    have tested_mon : tested.mon = s.mon := by
      simp only [tested]
      split
      · split
        · exact kept.mon
        · exact kept.mon
      · exact kept.mon
    have finished {u : State} (hu : enableAtCommit .tail s.setup.active (enableAtCommit .brk s.setup.active tested) = u) :
        done u := by
      refine answers ((takeCommitSetup_taken (s := taken p s) rfl hl (met passes) ?_).trans ?_)
      · simpa using late_iff.not.2 inTime
      · rw [← hu, ← tested_eq, once_eq]
        rfl
    refine ⟨fun quiet => finished ?_, fun hz hn ho hv ht => finished ?_, fun hz hn ho hv hb => finished ?_⟩
    · rw [enablesAtCommit_quiet (by rwa [tested_setup, tested_mon])]
      simp only [lined, tested_setup, tested_mon]
      rfl
    · rw [enablesAtCommit_brk (by rwa [tested_setup]) (by rwa [tested_setup]) ho (by rwa [tested_mon])
        (by rwa [tested_setup])]
      simp only [← tested_mon]
      rfl
    · rw [enablesAtCommit_tail (by rwa [tested_setup]) (by rwa [tested_setup]) ho (by rwa [tested_mon])
        (by rwa [tested_setup])]
      simp only [← tested_mon]
      rfl
end

section
/-! ## Proofs: values of items, and a setup overlaid by some (R137 to R139) -/

namespace Sys2Proof.Machine

variable {a b : Setup} {i : Item} {l : List (Item × SetupValue)}

/-- R138: a value that fits its item reads back from the setup that takes it. -/
theorem Setup.get_put_self (a : Setup) {i : Item} {v : SetupValue} (h : valueFits i v = true) :
    (a.put i v).get i = v := by
  have code2 {c : Nat} (hc : c < 2) : c = 0 ∨ c = 1 := by omega
  have code4 {c : Nat} (hc : c < 4) : c = 0 ∨ c = 1 ∨ c = 2 ∨ c = 3 := by omega
  cases i <;> cases v <;> simp only [valueFits, Item.shape, decide_eq_true_eq, Bool.false_eq_true] at h
  case positionMode.code | breakLineEnable.code | tailLineEnable.code | tallyMode.code =>
    obtain rfl | rfl := code2 h <;> rfl
  case zoneKind.code => obtain rfl | rfl | rfl | rfl := code4 h <;> rfl
  all_goals rfl

/-- R137: one item's value leaves the others, and a value of another kind than its item's leaves them all. -/
theorem Setup.get_put_other (a : Setup) {i j : Item} (v : SetupValue) (h : j ≠ i) : (a.put i v).get j = a.get j := by
  cases i <;> cases v <;> first | rfl | (cases j <;> first | rfl | exact absurd rfl h)

theorem Setup.put_curves (a : Setup) {i : Item} (v : SetupValue) :
    (i ≠ .bwCurve → (a.put i v).bwCurve = a.bwCurve) ∧ (i ≠ .waterCurve → (a.put i v).waterCurve = a.waterCurve) := by
  constructor <;> intro h <;> cases i <;> cases v <;> first | rfl | exact absurd rfl h

/-- R137, R138: every item of a setup stays in range when one takes a value that fits it. -/
theorem activeFits_put {j : Item} {v : SetupValue} (hv : valueFits j v = true) (h : activeFits a i = true) :
    activeFits (a.put j v) i = true := by
  by_cases e : i = j
  · subst e
    simp [activeFits, Setup.get_put_self a hv, hv]
  · obtain ⟨bw, water⟩ := Setup.put_curves a (i := j) v
    simp only [activeFits, Setup.get_put_other a v e, Bool.or_eq_true, Bool.and_eq_true, decide_eq_true_eq] at h ⊢
    refine h.imp (Or.imp id fun ⟨hi, unloaded⟩ => ⟨hi, ?_⟩) fun ⟨hi, unloaded⟩ => ⟨hi, ?_⟩
    · rw [bw (hi ▸ Ne.symm e), unloaded]
    · rw [water (hi ▸ Ne.symm e), unloaded]

/-- Each value of a list is one of its item (R137, R138). -/
abbrev Fitting (l : List (Item × SetupValue)) : Prop := ∀ e ∈ l, valueFits e.1 e.2 = true

theorem activeFits_overlay (fits : Fitting l) (h : activeFits a i = true) : activeFits (a.overlay l) i = true := by
  induction l generalizing a with
  | nil => exact h
  | cons e rest ih =>
    exact ih (fun x hx => fits x (List.mem_cons_of_mem _ hx)) (activeFits_put (fits e List.mem_cons_self) h)

theorem Setup.get_overlay_absent (h : ∀ e ∈ l, e.1 ≠ i) : (a.overlay l).get i = a.get i := by
  induction l generalizing a with
  | nil => rfl
  | cons e rest ih =>
    exact (ih fun x hx => h x (List.mem_cons_of_mem _ hx)).trans
      (Setup.get_put_other a e.2 (h e List.mem_cons_self).symm)

theorem Setup.get_overlay_of_mem (fits : Fitting l) (distinct : (l.map Prod.fst).Nodup) {e : Item × SetupValue}
    (h : e ∈ l) : (a.overlay l).get e.1 = e.2 := by
  induction l generalizing a with
  | nil => cases h
  | cons first rest ih =>
    obtain ⟨once, distinct⟩ := List.nodup_cons.1 distinct
    rcases List.mem_cons.1 h with rfl | h
    · refine (Setup.get_overlay_absent (a := a.put e.1 e.2) (l := rest) fun x hx k => once ?_).trans
        (Setup.get_put_self a (fits e List.mem_cons_self))
      exact k ▸ List.mem_map_of_mem hx
    · exact ih (fun x hx => fits x (List.mem_cons_of_mem _ hx)) distinct h

/-- R137, R139: every item that a cross-item constraint names is an AT_STANDARDIZE item. -/
theorem Setup.consistent_congr (h : ∀ i : Item, i.cls = .atStandardize → a.get i = b.get i) :
    a.consistent = b.consistent := by
  have scalar (i : Item) {x y : Nat} (hc : i.cls = .atStandardize) (ha : a.get i = .scalar x)
      (hb : b.get i = .scalar y) : x = y := SetupValue.scalar.inj (ha.symm.trans ((h i hc).trans hb))
  have same (n : Nat) : constraintHolds a n = constraintHolds b n := by
    unfold constraintHolds
    rw [scalar .parkPos (by decide) rfl rfl, scalar .turnF (by decide) rfl rfl, scalar .indexF (by decide) rfl rfl,
      scalar .binOrigin (by decide) rfl rfl, scalar .binCount (by decide) rfl rfl,
      scalar .binWidth (by decide) rfl rfl, scalar .indexD (by decide) rfl rfl, scalar .turnD (by decide) rfl rfl,
      scalar .zoneCount (by decide) rfl rfl]
  simp only [Setup.consistent, firstFailing, same]

end Sys2Proof.Machine
end

section
/-! ## Proofs: apply events keep the setup store sound (R149 to R155) -/

namespace Sys2Proof.Machine

/-! ### The store as a whole -/

/-- What `SetupSound` asks of the setup store. -/
structure SetupStore.Sound (u : SetupStore) : Prop where
  active     : ∀ i, activeFits u.active i = true
  ascending  : Ascending u.armed
  armed      : ∀ e ∈ u.armed, valueFits e.item e.value = true
  staging    : ∀ p, StagingSound (u.staging.get p)
  consistent : u.active.consistent = true
  overlaid   : (u.active.overlay (u.armed.map Armed.pair)).consistent = true
  generation : u.generation ≤ max16

theorem setupSound_iff {s : State} : SetupSound s ↔ s.setup.Sound := by
  constructor
  · rintro ⟨active, ascending, armed, sp0, sp1, sp2, consistent, overlaid, generation⟩
    refine ⟨fun i => active i (by cases i <;> decide), ascending, armed, ?_, consistent, overlaid, generation⟩
    rintro (_ | _ | _)
    · exact sp0
    · exact sp1
    · exact sp2
  · rintro ⟨active, ascending, armed, staging, consistent, overlaid, generation⟩
    exact ⟨fun i _ => active i, ascending, armed, staging .sp0, staging .sp1, staging .sp2, consistent, overlaid,
      generation⟩

variable {u : SetupStore}

namespace SetupStore.Sound

/-- No rule of the store speaks of the group-due mark (R153). -/
theorem marked (h : u.Sound) (b : Bool) : ({ u with groupMark := b } : SetupStore).Sound :=
  ⟨h.active, h.ascending, h.armed, h.staging, h.consistent, h.overlaid, h.generation⟩

theorem staged (h : u.Sound) (p : PortId) {l : List Staged} (hl : StagingSound l) :
    ({ u with staging := u.staging.set p l } : SetupStore).Sound := by
  refine ⟨h.active, h.ascending, h.armed, fun q => ?_, h.consistent, h.overlaid, h.generation⟩
  by_cases e : q = p
  · subst e
    simpa using hl
  · rw [PerPort.get_set_other _ _ _ _ e]
    exact h.staging q

theorem discarded (h : u.Sound) (p : PortId) : ({ u with staging := u.staging.set p [] } : SetupStore).Sound :=
  h.staged p ⟨Nat.zero_le _, List.nodup_nil, by simp⟩

end SetupStore.Sound

/-! ### Apply events (R151 to R155) -/

theorem fitting_armed {l : List Armed} (h : ∀ e ∈ l, valueFits e.item e.value = true) : Fitting (l.map Armed.pair) := by
  simpa [Fitting, Armed.pair] using h

theorem distinct_armed {l : List Armed} (h : Ascending l) : ((l.map Armed.pair).map Prod.fst).Nodup := by
  have ids : ((l.map Armed.item).map Item.id).Nodup := by
    rw [List.map_map]
    exact h.imp Nat.ne_of_lt
  simpa [Armed.pair, Function.comp_def] using ids.of_map

theorem armed_unique {l : List Armed} (h : Ascending l) {e x : Armed} (he : e ∈ l) (hx : x ∈ l)
    (same : e.item = x.item) : e = x := by
  refine List.inj_on_of_nodup_map (f := fun e : Armed => e.item.id) (h.imp Nat.ne_of_lt) he hx ?_
  exact congrArg Item.id same

/-- R149: what an overlay by armed entries gives an item that one of them is for. -/
theorem get_overlay_armed {l : List Armed} (ascending : Ascending l)
    (fits : ∀ e ∈ l, valueFits e.item e.value = true) (a : Setup) {e : Armed} (he : e ∈ l) :
    (a.overlay (l.map Armed.pair)).get e.item = e.value :=
  Setup.get_overlay_of_mem (fitting_armed fits) (distinct_armed ascending) (List.mem_map_of_mem he)

theorem get_overlay_unarmed {l : List Armed} {i : Item} (h : ∀ e ∈ l, e.item ≠ i) (a : Setup) :
    (a.overlay (l.map Armed.pair)).get i = a.get i :=
  Setup.get_overlay_absent (by simpa [Armed.pair] using h)

theorem nextGeneration_le {g : Nat} (h : g ≤ max16) : nextGeneration g ≤ max16 := by
  unfold nextGeneration
  split
  · decide
  · omega

/-- R151 to R154: an apply event applies the armed AT_STANDARDIZE entries all together or leaves them all. -/
def SetupStore.KeepsGroup (u : SetupStore) (picks : Armed → Bool) : Prop :=
  (∀ e ∈ u.armed, e.item.cls = .atStandardize → picks e = true) ∨
    (∀ e ∈ u.armed, e.item.cls = .atStandardize → picks e = false)

theorem SetupStore.appliedBy_active (u : SetupStore) (picks : Armed → Bool) :
    (u.appliedBy picks).active = u.active.overlay ((u.armed.filter picks).map Armed.pair) := by
  simp only [SetupStore.appliedBy, Setup.overlay, List.foldl_map]
  rfl

theorem SetupStore.appliedBy_get_unpicked {picks : Armed → Bool} {i : Item}
    (h : ∀ e ∈ u.armed, e.item = i → picks e = false) : (u.appliedBy picks).active.get i = u.active.get i := by
  rw [appliedBy_active]
  refine get_overlay_unarmed (fun e he k => ?_) _
  obtain ⟨he, picked⟩ := List.mem_filter.1 he
  simp [h e he k] at picked

namespace SetupStore.Sound

/-- Some of the armed entries are still in order and in range. -/
theorem armed_filter (h : u.Sound) (q : Armed → Bool) :
    Ascending (u.armed.filter q) ∧ ∀ e ∈ u.armed.filter q, valueFits e.item e.value = true :=
  ⟨List.Pairwise.sublist (List.filter_sublist.map _) h.ascending, fun e he => h.armed e (List.mem_filter.1 he).1⟩

theorem appliedBy_get_picked (h : u.Sound) {picks : Armed → Bool} {e : Armed} (he : e ∈ u.armed)
    (hp : picks e = true) : (u.appliedBy picks).active.get e.item = e.value := by
  obtain ⟨ascending, fits⟩ := h.armed_filter picks
  rw [appliedBy_active]
  exact get_overlay_armed ascending fits _ (List.mem_filter.2 ⟨he, hp⟩)

/-- R149, R155: the armed values that an apply event leaves, laid over those it has applied, give the setup that all the
armed values gave before. -/
theorem overlay_appliedBy_get (h : u.Sound) (picks : Armed → Bool) (i : Item) :
    ((u.appliedBy picks).active.overlay ((u.appliedBy picks).armed.map Armed.pair)).get i =
      (u.active.overlay (u.armed.map Armed.pair)).get i := by
  obtain ⟨ascending, fits⟩ := h.armed_filter fun e => !picks e
  rw [appliedBy_armed]
  by_cases hi : ∃ e ∈ u.armed, e.item = i
  · obtain ⟨e, he, rfl⟩ := hi
    rw [get_overlay_armed h.ascending h.armed _ he]
    cases hp : picks e with
    | true =>
      refine (get_overlay_unarmed (fun x hx k => ?_) _).trans (h.appliedBy_get_picked he hp)
      obtain ⟨hx, left⟩ := List.mem_filter.1 hx
      simp [armed_unique h.ascending hx he k, hp] at left
    | false => exact get_overlay_armed ascending fits _ (List.mem_filter.2 ⟨he, by simp [hp]⟩)
  · have absent : ∀ e ∈ u.armed, e.item ≠ i := fun e he k => hi ⟨e, he, k⟩
    rw [get_overlay_unarmed absent, get_overlay_unarmed fun e he => absent e (List.mem_filter.1 he).1]
    exact appliedBy_get_unpicked fun e he k => absurd k (absent e he)

/-- R139: the constraints read AT_STANDARDIZE items alone. Where none of them is applied they stay as they were; where
all are, they are as the whole armed set gave them. -/
theorem appliedBy (h : u.Sound) {picks : Armed → Bool} (together : u.KeepsGroup picks) :
    (u.appliedBy picks).Sound := by
  obtain ⟨leftAscending, leftFits⟩ := h.armed_filter fun e => !picks e
  refine ⟨fun i => ?_, leftAscending, leftFits, h.staging, ?_, ?_, ?_⟩
  · rw [appliedBy_active]
    exact activeFits_overlay (fitting_armed (h.armed_filter picks).2) (h.active i)
  · rcases together with all | none
    · refine (Setup.consistent_congr fun i hi => ?_).trans h.overlaid
      by_cases hi' : ∃ e ∈ u.armed, e.item = i
      · obtain ⟨e, he, rfl⟩ := hi'
        rw [h.appliedBy_get_picked he (all e he hi), get_overlay_armed h.ascending h.armed _ he]
      · have absent : ∀ e ∈ u.armed, e.item ≠ i := fun e he k => hi' ⟨e, he, k⟩
        rw [get_overlay_unarmed absent, appliedBy_get_unpicked fun e he k => absurd k (absent e he)]
    · refine (Setup.consistent_congr fun i hi => appliedBy_get_unpicked fun e he k => none e he ?_).trans h.consistent
      rw [k, hi]
  · exact (Setup.consistent_congr fun i _ => h.overlay_appliedBy_get picks i).trans h.overlaid
  · simp only [SetupStore.appliedBy]
    split
    · exact nextGeneration_le h.generation
    · exact h.generation

end SetupStore.Sound

end Sys2Proof.Machine
end

section
/-! ## Proofs: staging and commits keep the setup store sound (R138 to R149) -/

namespace Sys2Proof.Machine

variable {u : SetupStore} {s : State} {l : List Staged} {p : PortId} {target : Target}

/-! ### Staging (R138, R140, R141) -/

/-- R138: a value that is staged, as it was offered or clamped, is one of its item. -/
theorem valueFits_of_checkValue {i : Item} {o : Offered} {v : SetupValue} {clamped : Bool}
    (h : checkValue i o = .staged v clamped) : valueFits i v = true := by
  cases hs : i.shape with
  | scalar lo hi =>
    cases o with
    | scalar w =>
      have ordered := shape_scalar_ordered hs
      rw [checkValue_scalar hs] at h
      cases h
      simp [valueFits, hs, ordered]
    | code | curve => simp [checkValue, hs] at h
  | enumerated codes =>
    cases o with
    | code c =>
      rw [checkValue_code hs] at h
      split_ifs at h with hc
      cases h
      simp [valueFits, hs, hc]
    | scalar | curve => simp [checkValue, hs] at h
  | curve count top rising =>
    cases o with
    | curve points =>
      rw [checkValue_curve hs] at h
      split_ifs at h with length shape
      cases h
      simpa [valueFits, hs, shape] using length
    | scalar | code => simp [checkValue, hs] at h

/-- R141: an item's own entry gives way, or there is room for one more. -/
theorem stagingSound_stageIn (h : StagingSound l) {i : Item} {v : SetupValue} (hv : valueFits i v = true)
    (room : stagingFull l i = false) : StagingSound (stageIn l i v) := by
  obtain ⟨bound, distinct, fits⟩ := h
  unfold stageIn
  split
  · have items : (l.map fun e => if e.item = i then ⟨i, v⟩ else e).map Staged.item = l.map Staged.item := by
      rw [List.map_map]
      refine List.map_congr_left fun e _ => ?_
      simp only [Function.comp_apply]
      split
      · exact Eq.symm ‹_›
      · rfl
    refine ⟨by simpa using bound, items ▸ distinct, fun x hx => ?_⟩
    obtain ⟨e, he, rfl⟩ := List.mem_map.1 hx
    split
    · exact hv
    · exact fits e he
  · rename_i absent
    have new : ∀ e ∈ l, e.item ≠ i := by simpa using absent
    have short : l.length < 32 := by simpa [stagingFull, absent] using room
    refine ⟨by simpa using short, ?_, fun x hx => ?_⟩
    · rw [List.map_append, List.nodup_append]
      exact ⟨distinct, by simp, by simpa using new⟩
    · rcases List.mem_append.1 hx with hx | hx
      · exact fits x hx
      · rw [List.mem_singleton.1 hx]
        exact hv

theorem SetupStore.Sound.takeWriteSetup (h : s.setup.Sound) (p : PortId) (item : BitVec 8) (value : Offered) :
    (takeWriteSetup p item value s).1.setup.Sound := by
  unfold Machine.takeWriteSetup
  split
  · exact h
  · split
    · exact h
    · exact h
    · rename_i checked
      unfold stage
      dsimp only
      split
      · exact h
      · rename_i room
        exact h.staged p (stagingSound_stageIn (h.staging p) (valueFits_of_checkValue checked)
          (by simpa using room))

/-! ### Commits (R144 to R147) -/

theorem fitting_staged (h : ∀ e ∈ l, valueFits e.item e.value = true) : Fitting (l.map Staged.pair) := by
  simpa [Fitting, Staged.pair] using h

/-- The store after a commit that is taken, but for the group-due mark (R146, R147). -/
def SetupStore.committed (u : SetupStore) (p : PortId) (target : Target) (l : List Staged) : SetupStore :=
  { u with
    active := u.active.overlay ((l.filter (appliesAtOnce target)).map Staged.pair)
    armed := armAll p target l u.armed
    staging := u.staging.set p [] }

theorem fits_armAll {armed : List Armed} (ha : ∀ e ∈ armed, valueFits e.item e.value = true)
    (hl : ∀ e ∈ l, valueFits e.item e.value = true) :
    ∀ e ∈ armAll p target l armed, valueFits e.item e.value = true := by
  intro e he
  rcases mem_armAll.1 he with ⟨he, _⟩ | ⟨x, hx, _, rfl⟩
  · exact ha e he
  · exact hl x hx

theorem appliesAtOnce_of_standardize {e : Staged} (h : e.item.cls = .atStandardize) :
    appliesAtOnce target e = false := by
  simp [appliesAtOnce, h]

/-- R146: a commit applies IMMEDIATE values at once, and none of an AT_STANDARDIZE item. -/
theorem SetupStore.committed_get {i : Item} (hi : i.cls = .atStandardize) :
    (u.committed p target l).active.get i = u.active.get i := by
  refine Setup.get_overlay_absent fun x hx k => ?_
  obtain ⟨e, he, rfl⟩ := List.mem_map.1 hx
  have later : appliesAtOnce target e = false := appliesAtOnce_of_standardize ((congrArg Item.cls k).trans hi)
  simp [later] at he

theorem prospective_get_staged (hl : StagingSound l) {e : Staged} (he : e ∈ l) :
    (prospective u l).get e.item = e.value := by
  obtain ⟨-, distinct, fits⟩ := hl
  exact Setup.get_overlay_of_mem (fitting_staged fits) (by simpa [Staged.pair, Function.comp_def] using distinct)
    (List.mem_map_of_mem (f := Staged.pair) he)

theorem prospective_get_unstaged {i : Item} (hi : ∀ e ∈ l, e.item ≠ i) :
    (prospective u l).get i = (u.active.overlay (u.armed.map Armed.pair)).get i :=
  Setup.get_overlay_absent (by simpa [Staged.pair] using hi)

namespace SetupStore.Sound

/-- R144: the armed set that a commit leaves, laid over the active setup, gives the AT_STANDARDIZE items the values of
the prospective setup. -/
theorem overlay_committed_get (h : u.Sound) (hl : StagingSound l) {i : Item} (hi : i.cls = .atStandardize) :
    ((u.committed p target l).active.overlay ((u.committed p target l).armed.map Armed.pair)).get i =
      (prospective u l).get i := by
  have ⟨_, distinct, stagedFits⟩ := hl
  have ascending : Ascending (armAll p target l u.armed) := ascending_armAll h.ascending distinct
  have fits := fits_armAll (p := p) (target := target) h.armed stagedFits
  by_cases hs : ∃ e ∈ l, e.item = i
  · obtain ⟨e, he, rfl⟩ := hs
    rw [prospective_get_staged hl he]
    exact get_overlay_armed ascending fits _ (e := ⟨e.item, e.value, target, p⟩)
      (mem_armAll.2 (.inr ⟨e, he, appliesAtOnce_of_standardize hi, rfl⟩))
  have notStaged : ∀ e ∈ l, e.item ≠ i := fun e he k => hs ⟨e, he, k⟩
  rw [prospective_get_unstaged notStaged]
  by_cases ha : ∃ e ∈ u.armed, e.item = i
  · obtain ⟨e, he, rfl⟩ := ha
    rw [get_overlay_armed h.ascending h.armed _ he]
    exact get_overlay_armed ascending fits _ (mem_armAll.2 (.inl ⟨he, notStaged⟩))
  · have notArmed : ∀ e ∈ u.armed, e.item ≠ i := fun e he k => ha ⟨e, he, k⟩
    rw [get_overlay_unarmed notArmed, ← SetupStore.committed_get hi]
    refine get_overlay_unarmed (fun e he k => ?_) _
    rcases mem_armAll.1 he with ⟨he, _⟩ | ⟨x, hx, _, rfl⟩
    · exact notArmed e he k
    · exact notStaged x hx k

/-- R139, R144: the test of the prospective setup is the one that the setup overlaid by the new armed set has to meet,
for the constraints read AT_STANDARDIZE items alone. -/
theorem committed (h : u.Sound) (hl : StagingSound l) (passes : (prospective u l).consistent = true) :
    (u.committed p target l).Sound := by
  have ⟨_, distinct, fits⟩ := hl
  refine ⟨fun i => ?_, ascending_armAll h.ascending distinct, fits_armAll h.armed fits, (h.discarded p).staging, ?_, ?_,
    h.generation⟩
  · exact activeFits_overlay (fitting_staged fun e he => fits e (List.mem_filter.1 he).1) (h.active i)
  · exact (Setup.consistent_congr fun _ hi => SetupStore.committed_get hi).trans h.consistent
  · exact (Setup.consistent_congr fun _ hi => h.overlay_committed_get hl hi).trans passes

end SetupStore.Sound

theorem SetupStore.Sound.testGroup (h : s.setup.Sound) (was : Bool) : (testGroup was s).setup.Sound := by
  unfold Machine.testGroup
  split
  · split
    · exact h.marked true
    · exact h
  · exact h

/-- R146 to R148, R153: a commit that is taken, with its notices and its test of the group. -/
theorem SetupStore.Sound.commitTaken (h : s.setup.Sound)
    (passes : (prospective s.setup (s.setup.staging.get p)).consistent = true) :
    (commitTaken p target s).setup.Sound := by
  have applied (now : List Staged) (hn : ∀ e ∈ now, e.item.cls = .immediate) (v : State) :
      (applyValues (now.map Staged.pair) .commit v).setup =
        { v.setup with active := v.setup.active.overlay (now.map Staged.pair) } := by
    rw [applyValues_immediate hn]
    split
    · rename_i none
      rw [none]
      rfl
    · rw [notify_setup, Setup.overlay, List.foldl_map]
      rfl
  have told (armed : List Armed) (l : List Staged) (q : PortId) (v : State) :
      (notifySuperseded armed l p target q v).setup = v.setup := (onlyNotices_notifySuperseded _ _ _ _ _ _).setup
  have immediate : ∀ e ∈ (s.setup.staging.get p).filter (appliesAtOnce target), e.item.cls = .immediate := by
    intro e he
    obtain ⟨_, cls⟩ : target = .next ∧ e.item.cls = .immediate := by
      simpa [appliesAtOnce] using (List.mem_filter.1 he).2
    exact cls
  have sound := h.committed (p := p) (target := target) (h.staging p) passes
  unfold Machine.commitTaken
  dsimp only
  split
  · refine SetupStore.Sound.testGroup ?_ _
    rw [told, told, told, applied _ immediate]
    exact sound
  · rw [told, told, told, applied _ immediate]
    exact sound

end Sys2Proof.Machine
end

section
/-! ## Proofs: every event of the part keeps the setup store sound

Apply events are all that the events of the head, the timers, the lines and the finalizer do to the store, apart from
the group-due mark. -/

namespace Sys2Proof.Machine

variable {s t : State}

/-! ### Operations that leave the setup store as it is -/

@[simp] theorem park_setup (s : State) : (park s).setup = s.setup := by simp [park]

@[simp] theorem enterPositioning_setup (target : MoveTarget) (s : State) :
    (enterPositioning target s).setup = s.setup := by
  simp [enterPositioning]

@[simp] theorem resume_setup (s : State) : (resume s).setup = s.setup := by
  unfold resume
  split
  · split <;> simp
  · simp

@[simp] theorem reportScanEnd_setup (code : EndCode) (width : Nat) (s : State) :
    (reportScanEnd code width s).setup = s.setup := by
  have reported (v : State) : (reportComplete width v).setup = v.setup := by
    refine (onlyNotices_reportComplete [] width v).setup.trans ?_
    unfold sheetReported
    split <;> rfl
  unfold reportScanEnd
  split
  · rfl
  · dsimp only
    split <;> simp [reported]

@[simp] theorem freeAccumulating_setup (s : State) : (freeAccumulating s).setup = s.setup := by
  rw [freeAccumulating_eq, gatheringFreed_setup]

@[simp] theorem edgeEffect_setup (l : Line) (s : State) : (edgeEffect l s).setup = s.setup := by
  unfold edgeEffect
  split
  · exact breakCause_setup _ _ _ _
  · simp [enterRecovery]
  · split
    · simp [enterThreading]
    · rfl

@[simp] theorem resetLine_setup (l : Line) (old : Setup) (s : State) : (resetLine l old s).setup = s.setup := by
  unfold resetLine
  split <;> rfl

@[simp] theorem enableInScanEnd_setup (l : Line) (old : Setup) (s : State) :
    (enableInScanEnd l old s).setup = s.setup := by
  unfold enableInScanEnd
  dsimp only
  split
  · split
    · simp [takeLevel]
    · simp [compareLevel]
  · simp

@[simp] theorem completeSet_setup (i : SetId) (e : ScanEdges) (s : State) : (completeSet i e s).setup = s.setup := by
  have mapped (snap : Snapshot) (scan : Nat) (v : State) : (updateMapping e snap scan v).setup = v.setup := by
    unfold updateMapping
    dsimp only
    split
    · rfl
    · split
      · rfl
      · split <;> simp
  unfold completeSet
  dsimp only
  split
  · rfl
  · exact mapped _ _ _

@[simp] theorem sheetSample_setup (i : SetId) (k : Tracker) (c : Converted) (s : State) :
    (sheetSample i k c s).setup = s.setup := by
  have binned (k : Tracker) (v : State) : (binStage i k c v).setup = v.setup := by
    unfold binStage
    split
    · simp
    · split
      · simp
      · simp [addToBin]
  unfold sheetSample
  dsimp only
  rw [binned]
  split <;> simp

@[simp] theorem reckon_setup (f : SampleFrame) (s : State) : (reckon f s).setup = s.setup := by
  unfold reckon
  dsimp only
  split
  · unfold checkMark
    dsimp only
    split
    · split <;> rfl
    · rw [markSlipped_setup]
      split <;> simp
  · rfl

@[simp] theorem takeSeq_setup (f : SampleFrame) (s : State) : (takeSeq f s).setup = s.setup := by
  unfold takeSeq
  dsimp only
  split <;> simp

/-! ### Apply events in the part's events -/

namespace SetupStore.Sound

theorem applyArmed (h : s.setup.Sound) {sel : Armed → Bool} (together : s.setup.KeepsGroup sel) (point : ApplyPoint) :
    (applyArmed sel point s).setup.Sound := by
  rw [applyArmed_eq, appliedAt_setup]
  exact h.appliedBy together

/-- R151: a scan start applies AT_SCAN_END entries alone. -/
theorem applyAtScanStart (h : s.setup.Sound) : (applyAtScanStart s).setup.Sound :=
  h.applyArmed (.inr fun e _ hc => by simp [hc]) _

/-- R154: the start of a standardization applies the whole group, or none of it. -/
theorem applyGroup (h : s.setup.Sound) : (applyGroup s).setup.Sound := by
  unfold Machine.applyGroup
  split
  · exact h.applyArmed (.inl fun e _ hc => by simp [hc]) _
  · exact h

/-- R152: a scan end applies no AT_STANDARDIZE entry. -/
theorem applyScanEnd (h : s.setup.Sound) (was : Bool) : (applyScanEnd was s).setup.Sound := by
  have applied : (Machine.applyArmed (scanEndSelects s) .scanEnd s).setup.Sound :=
    h.applyArmed (.inr fun e _ hc => by simp [scanEndSelects, hc]) _
  simpa [Machine.applyScanEnd] using applied.testGroup was

theorem startStandardization (h : s.setup.Sound) : (startStandardization s).setup.Sound :=
  applyGroup (s := s.onStd _) h

theorem enterStandardizing (h : s.setup.Sound) : (enterStandardizing s).setup.Sound :=
  startStandardization (by simpa using h)

theorem arrivalAtPark (h : s.setup.Sound) : (arrivalAtPark s).setup.Sound := by
  unfold Machine.arrivalAtPark
  extract_lets a u
  split
  · exact enterStandardizing (s := u) h
  · simpa [u] using h

theorem idleStart (h : s.setup.Sound) (target : MoveTarget) : (idleStart target s).setup.Sound := by
  unfold Machine.idleStart
  split
  · simpa using h
  · split
    · exact h.enterStandardizing
    · simpa using h

/-! ### Scan ends, head faults and scan starts (R15 to R18, R23) -/

theorem endScan (h : s.setup.Sound) (code : EndCode) : (endScan code s).setup.Sound :=
  applyScanEnd (by simpa using h) _

theorem takeHeadFault (h : s.setup.Sound) : (takeHeadFault s).setup.Sound := by
  have ended : (if (issue .stop s).trav.cur.isSome then Machine.endScan .headFault (issue .stop s)
      else issue .stop s).setup.Sound := by
    split
    · exact endScan (s := issue .stop s) h _
    · exact h
  unfold Machine.takeHeadFault
  dsimp only
  generalize (if (issue .stop s).trav.cur.isSome then _ else _) = u at ended
  rw [enterFault, changeState_setup, State.onTrav_setup, abandonStandardization]
  split
  · exact ended.marked false
  · exact ended

theorem headFault (h : s.setup.Sound) : (headFault s).setup.Sound := by
  unfold Machine.headFault
  split
  · exact h
  · split
    · exact h.takeHeadFault
    · exact h
  · exact h.takeHeadFault

theorem startScan (h : s.setup.Sound) (dir : Dir) : (startScan dir s).setup.Sound := by
  unfold Machine.startScan
  split
  · simpa using h
  · split
    · exact h.headFault
    · simpa [runScan, claimSet] using h.applyAtScanStart

theorem arrivalAtTarget (h : s.setup.Sound) : (arrivalAtTarget s).setup.Sound := by
  unfold Machine.arrivalAtTarget
  split
  · split
    · exact h.startScan _
    · split
      · exact h.startScan _
      · simpa using h
  · split <;> simpa using h
  · exact h

theorem scanEndEvent (h : s.setup.Sound) : (scanEndEvent s).setup.Sound := by
  unfold Machine.scanEndEvent
  split
  · split
    · rename_i e _
      have counted (i : SetId) : (countComplete (reportScanEnd .complete e.width (completeSet i e s))).setup.Sound := by
        simpa [countComplete] using h
      unfold endComplete afterComplete
      dsimp only
      split
      · simpa using (counted _).applyScanEnd _
      · split
        · simpa using (counted _).applyScanEnd _
        · exact ((counted _).applyScanEnd _).startScan _
    · rw [endNoSheet, park_setup]
      exact applyScanEnd (by simpa [breakCause_setup] using h) _
  · exact h

theorem arrival (h : s.setup.Sound) : (arrival s).setup.Sound := by
  unfold Machine.arrival
  split
  · exact h.arrivalAtPark
  · exact h.arrivalAtTarget
  · exact h.scanEndEvent
  · exact h

theorem finalizeSet (h : s.setup.Sound) (i : SetId) : (finalizeSet i s).setup.Sound := by
  have passed : (passOn i { s with ring := s.ring.add (formEntry (s.edge.get i) s.ring s.mon.state) }).setup.Sound := by
    rwa [passOn_setup]
  unfold Machine.finalizeSet
  dsimp only
  rw [notify_setup]
  split
  · exact passed.startScan _
  · exact passed

/-! ### What the break monitor tells the controller (R22) -/

theorem tellTraverse (h : s.setup.Sound) (e : TravEvent) : (tellTraverse e s).setup.Sound := by
  cases e with
  | quiet => exact h
  | broke =>
    dsimp only [Machine.tellTraverse]
    unfold traverseBreak
    split
    · split
      · simpa using h.endScan _
      · exact h
    all_goals simpa using h
  | recovered =>
    dsimp only [Machine.tellTraverse]
    unfold traverseRecovered
    split
    · exact h.idleStart _
    · exact h.idleStart _
    · exact h

theorem takeCause (h : s.setup.Sound) (cause : Cause) (scan : Nat) (pos : Option Nat) :
    (takeCause cause scan pos s).setup.Sound :=
  tellTraverse (by rwa [breakCause_setup]) _

theorem lineEdge (h : s.setup.Sound) (l : Line) : (lineEdge l s).setup.Sound := tellTraverse (by simpa using h) _

theorem lineChange (h : s.setup.Sound) (l : Line) (level : Bool) : (lineChange l level s).setup.Sound := by
  have changed : (takeLevel l (s.onLine l fun v => { v with level := level })).setup.Sound := h
  unfold Machine.lineChange
  dsimp only
  split
  · exact h
  · split
    · exact changed.lineEdge l
    · exact h

theorem debounced (h : s.setup.Sound) (l : Line) : (debounced l s).setup.Sound := by
  unfold Machine.debounced
  split
  · exact h
  · exact lineEdge (s := takeLevel l s) h l

theorem enableAtCommit (h : s.setup.Sound) (l : Line) (old : Setup) : (enableAtCommit l old s).setup.Sound := by
  have reset : (resetLine l old s).setup.Sound := by simpa using h
  unfold Machine.enableAtCommit
  dsimp only
  split
  · split
    · exact lineEdge (s := takeLevel l _) reset l
    · exact reset
  · exact reset

/-! ### Samples (R21, R29 to R36, R59 to R65) -/

theorem scanSample (h : s.setup.Sound) (f : SampleFrame) : (scanSample f s).setup.Sound := by
  unfold Machine.scanSample
  split
  · split
    · simpa using h
    · split
      · unfold airSampleStep
        split
        · exact takeCause (s := airTracked _ _ _ s) h _ _ _
        · exact h
      · simpa using h
  · exact h

theorem dwellSample (h : s.setup.Sound) (f : SampleFrame) : (dwellSample f s).setup.Sound := by
  have dwelt (d : DwellAcc) : (s.setDwell d).setup.Sound := h
  unfold Machine.dwellSample
  split
  · simpa using h
  · split
    · unfold dwellAir
      dsimp only
      split
      · exact (dwelt _).takeCause _ _ _
      · exact dwelt _
    · unfold dwellSheet
      dsimp only
      split
      · simpa using dwelt DwellAcc.empty
      · exact dwelt _

theorem concludeStandardization (h : s.setup.Sound) (x : StdFlight) : (concludeStandardization x s).setup.Sound := by
  have taken : (resultTaken x s).setup = s.setup := by
    unfold resultTaken
    dsimp only
    split <;> rfl
  have reported : (reportResult (recordOf x s) (resultTaken x s)).setup = s.setup :=
    (onlyNotices_reportResult _ _).setup.trans taken
  rw [concludeStandardization_eq, actOnGroupMark_eq, reported]
  exact h.marked false

theorem takeResult (h : s.setup.Sound) : (takeResult s).setup.Sound := by
  unfold Machine.takeResult
  split
  · split
    · simpa using h
    · unfold afterFailure
      split
      · simpa [enterFault] using h
      · split
        · exact h.startStandardization
        · simpa using h
  · exact h

theorem stdSample (h : s.setup.Sound) (f : SampleFrame) : (stdSample f s).setup.Sound := by
  unfold Machine.stdSample
  split
  · unfold stdAdvance
    split
    · split
      · exact h
      · exact (h.concludeStandardization _).takeResult
    · exact h
  · exact h

theorem sampleRecord (h : s.setup.Sound) (f : SampleFrame) : (sampleRecord f s).setup.Sound := by
  have placed : (reckon f (takeSeq f (frameSeen s))).setup.Sound := by simpa [frameSeen] using h
  unfold Machine.sampleRecord
  dsimp only
  split
  · exact h
  · unfold deliver
    split
    · exact placed.scanSample f
    · exact placed.stdSample f
    · exact placed.dwellSample f
    all_goals exact placed

end SetupStore.Sound

end Sys2Proof.Machine
end

section
/-! ## Proofs: requests, ports and whole steps keep the setup store sound -/

namespace Sys2Proof.Machine

variable {s t : State}

namespace SetupStore.Sound

/-! ### Requests (R165) -/

theorem stopEffect (h : s.setup.Sound) : (stopEffect s).setup.Sound := by
  unfold Machine.stopEffect
  split
  · simpa using h.endScan _
  all_goals simpa using h

theorem dwellEffect (h : s.setup.Sound) (same : Bool) : (dwellEffect same s).setup.Sound := by
  unfold Machine.dwellEffect
  split
  · split
    · exact h.idleStart _
    · exact h
  · dsimp only
    split <;> simpa using h.endScan _
  · simpa using h
  · simpa using h
  · split
    · exact h
    · simpa using h
  · exact h

theorem takeScanStart (h : s.setup.Sound) : (takeScanStart s).1.setup.Sound := by
  unfold Machine.takeScanStart
  split
  · unfold startEffect
    split
    · split
      · exact idleStart (s := s.setIntent .scan) h _
      · exact h
    · simpa using h
    · exact h
  · exact h

theorem takeStandardizeNow (h : s.setup.Sound) : (takeStandardizeNow s).1.setup.Sound := by
  unfold Machine.takeStandardizeNow standardizeEffect
  dsimp only
  split
  · split
    · exact enterStandardizing (s := s.onTrav _) h
    · simpa using h
  · exact h

theorem takeResumeSheet (h : s.setup.Sound) : (takeResumeSheet s).1.setup.Sound := by
  unfold Machine.takeResumeSheet
  split
  · exact h
  · split
    · exact h
    · exact tellTraverse (by simpa [enterRecovery] using h) .recovered

/-- R144: a commit is taken when the prospective setup meets every constraint. -/
theorem takeCommitSetup (h : s.setup.Sound) (p : PortId) (target : Target) :
    (takeCommitSetup p target s).1.setup.Sound := by
  unfold Machine.takeCommitSetup
  dsimp only
  split
  · exact h
  · split
    · exact h
    · rename_i passes
      split
      · exact h
      · exact ((h.commitTaken (by simp [Setup.consistent, passes])).enableAtCommit _ _).enableAtCommit _ _

theorem carryOut (h : s.setup.Sound) (p : PortId) (tag : BitVec 8) (r : Request) :
    (carryOut p tag r s).1.setup.Sound := by
  cases r <;> dsimp only [Machine.carryOut]
  case scanStart => exact h.takeScanStart
  case scanStop => exact stopEffect (s := s.setIntent .off) h
  case dwellAt => exact dwellEffect (s := (s.setIntent .dwell).onTrav _) h _
  case standardizeNow => exact h.takeStandardizeNow
  case clearFault =>
    unfold takeClearFault
    split
    · simpa using h
    · exact h
  case readProfile =>
    unfold takeReadProfile
    dsimp only
    split
    · exact h
    · split
      · exact h
      · split <;> exact h
  case resumeSheet => exact h.takeResumeSheet
  case acknowledgeAlarm =>
    unfold takeAcknowledge
    split
    · exact h
    · split <;> exact h
  case writeSetup item value => exact h.takeWriteSetup p item value
  case readSetup =>
    unfold takeReadSetup
    split <;> exact h
  case discardStaging => exact h.discarded p
  case commitSetup target => exact h.takeCommitSetup p target
  case subscribe =>
    unfold takeSubscribe
    split <;> exact h
  case readTallies =>
    unfold takeReadTallies
    dsimp only
    split <;> exact h
  all_goals exact h

/-! ### The engine and the end of a sending (R163 to R167) -/

theorem takeRequest (h : s.setup.Sound) (p : PortId) (r : Queued) : (takeRequest p r s).setup.Sound :=
  carryOut (s := s.onPort p Port.releaseHold) h p r.tag r.req

theorem pump (h : s.setup.Sound) (p : PortId) : (pump p s).setup.Sound := by
  unfold Machine.pump
  split
  · exact takeRequest (s := s.onPort p _) h p _
  · exact h

theorem requestArrives (h : s.setup.Sound) (p : PortId) (r : Queued) : (requestArrives p r s).setup.Sound := by
  have refused : (refuseFull p r s).setup.Sound := by
    unfold refuseFull
    split <;> exact h
  have arrived : (arrive p r s).setup.Sound := by
    unfold arrive
    dsimp only
    split
    · exact h.takeRequest p r
    · split
      · exact pump (s := enqueue p r s) h p
      · exact refused.pump p
  unfold Machine.requestArrives
  split
  · exact arrived
  · exact h

theorem frameDone (h : s.setup.Sound) (p : PortId) (x : Sending) : (frameDone p x s).setup.Sound := by
  unfold Machine.frameDone
  refine pump ?_ p
  split <;> exact h

/-! ### Whole commands -/

/-- R136, R137: the defaults are in range and meet every constraint. -/
theorem afterReset (brk tail : Bool) (lines : PerPort Bool) : (State.afterReset brk tail lines).setup.Sound := by
  obtain ⟨-, -, -, -, -, -, -, reset, -⟩ := resetLeavesTheValuesOfTheTables
  exact setupSound_iff.1 reset

theorem exec (h : s.setup.Sound) (c : Instr) (ht : exec c s = .next t) : t.setup.Sound := by
  have next {u : State} (e : (Host.Outcome.next u : Answered) = .next t) (hu : u.setup.Sound) : t.setup.Sound := by
    cases e
    exact hu
  cases c <;> dsimp only [Machine.exec] at ht
  case deviceReset => exact next ht (afterReset s.mon.brk.level s.mon.tail.level
      ⟨s.ports.sp0.linkUp, s.ports.sp1.linkUp, s.ports.sp2.linkUp⟩)
  case sample f =>
    unfold execSample at ht
    split at ht
    · exact next ht h
    · exact next ht (h.sampleRecord f)
  case arrived number pos =>
    unfold execArrived at ht
    split at ht
    · exact next ht (arrival (s := noteArrival pos (frameSeen s)) h)
    · exact next ht h
  case headStatus flags =>
    have linked : ((frameSeen s).onLink fun l => { l with headPresent := presentFlag flags }).setup.Sound := h
    unfold execHeadStatus at ht
    dsimp only at ht
    split at ht
    · exact next ht linked.headFault
    · exact next ht linked
  case silenceTimerExpiry =>
    have down : (linkDown s).setup.Sound := h
    unfold execSilenceTimerExpiry at ht
    dsimp only at ht
    split at ht
    · exact next ht h
    · split at ht
      · exact next ht down
      · exact next ht down.headFault
  case moveTimerExpiry =>
    unfold execMoveTimerExpiry at ht
    split at ht
    · exact next ht h
    · exact next ht (headFault (s := s.onTrav _) h)
  case lineLevelChange l level =>
    unfold execLineLevelChange at ht
    split at ht
    · exact next ht h
    · exact next ht (h.lineChange l level)
  case lineDebounceExpiry l =>
    unfold execLineDebounceExpiry at ht
    split at ht
    · exact next ht h
    · exact next ht (h.debounced l)
  case finalized =>
    unfold execFinalized at ht
    split at ht
    · exact next ht (h.finalizeSet _)
    · exact next ht h
  case hold p time =>
    unfold execHold at ht
    split at ht <;> exact next ht h
  case masterHoldExpiry p =>
    unfold execMasterHoldExpiry at ht
    dsimp only at ht
    split at ht <;> exact next ht h
  case partHoldExpiry p =>
    unfold execPartHoldExpiry at ht
    split at ht <;> exact next ht h
  case portReset p tag =>
    unfold execPortReset at ht
    split at ht
    · exact next ht (h.discarded p)
    · exact next ht h
  case serviceFrameDiscarded p =>
    unfold execServiceFrameDiscarded at ht
    split at ht
    · exact next ht (by simpa using h)
    · exact next ht h
  case linkLineFall p =>
    unfold execLinkLineFall at ht
    split at ht
    · exact next ht (h.discarded p)
    · exact next ht h
  case linkLineRise p =>
    unfold execLinkLineRise at ht
    split at ht <;> exact next ht h
  case frameSent p =>
    unfold execFrameSent at ht
    split at ht
    · exact next ht (h.frameDone p _)
    · exact next ht h
  case carriageFrameDiscarded => exact next ht h
  case carriageFrameUnknownType => exact next ht h
  all_goals exact next ht (h.requestArrives _ _)

end SetupStore.Sound

end Sys2Proof.Machine

open Sys2Proof Sys2Proof.Machine

/-- Settles O59: the store is kept sound by each command, and the queue that a step shortens is no part of it. -/
theorem everyStepKeepsTheSetupConsistent : Obligations.EveryStepKeepsTheSetupConsistent := by
  intro s t h ht
  rw [setupSound_iff] at h ⊢
  unfold step at ht
  split at ht
  · cases ht
    exact h
  · rename_i c rest _
    exact SetupStore.Sound.exec (s := { s with pending := rest }) h c ht
end

section
/-! ## Proofs: notices and their queues (R168, R169) -/

namespace Sys2Proof.Machine

variable {q : Port} {n : Notice} {s : State} {p : PortId}

theorem Port.sendingNotice_iff (q : Port) : q.sendingNotice = true ↔ q.sending.map Sending.source = some .notice := by
  unfold Port.sendingNotice
  cases q.sending <;> simp

theorem Port.begun_eq (q : Port) :
    q.begun = if q.sending.map Sending.source = some .notice then q.notices.take 1 else [] := by
  simp only [Port.begun, Port.sendingNotice_iff]

theorem Port.unbegun_eq (q : Port) :
    q.unbegun = if q.sending.map Sending.source = some .notice then q.notices.drop 1 else q.notices := by
  simp only [Port.unbegun, Port.sendingNotice_iff]

theorem Port.replaces_eq_false (h : n.isProfileReady = true → ∀ x ∈ q.unbegun, x.isProfileReady = false) :
    q.replaces n = false := by
  cases hn : n.isProfileReady with
  | false => simp [Port.replaces, hn]
  | true => simpa [Port.replaces, hn] using h hn

/-- R168: the port with the notice at the tail of its queue. -/
def Port.joined (n : Notice) (q : Port) : Port := { q with notices := q.notices ++ [n] }

/-- R168: a notice that has room and replaces none joins the tail of the queue. -/
theorem queueAt_joined (room : (s.ports.get p).notices.length < 16) (fresh : (s.ports.get p).replaces n = false) :
    queueAt n p s = s.onPort p (Port.joined n) := by
  have full : ¬ 16 ≤ (s.ports.get p).notices.length := by omega
  have fits : (s.ports.get p).overflows n = false := by simp [Port.overflows, full]
  have joins : (s.ports.get p).queue n = (s.ports.get p).joined n := by
    simp [Port.queue, fresh, full, Port.joined]
  simp only [queueAt, fits, State.onPort, joins, Bool.false_eq_true, if_false]

/-- R168: a port that takes a notice when it has subscribed to its kind. -/
def Port.told (n : Notice) (q : Port) : Port := if q.subscribed n.code then q.joined n else q

/-- R168: where each subscribed queue has room and nothing to replace, a notice joins these queues alone. -/
theorem notify_told (room : ∀ p, (s.ports.get p).subscribed n.code = true →
      (s.ports.get p).notices.length < 16 ∧ (s.ports.get p).replaces n = false) :
    notify n s = { s with ports := ⟨s.ports.sp0.told n, s.ports.sp1.told n, s.ports.sp2.told n⟩ } := by
  unfold notify atSubscribers
  extract_lets one
  have hears {p : PortId} {u : State} (same : u.ports.get p = s.ports.get p) :
      one p u = u.onPort p (Port.told n) := by
    dsimp only [one]
    split
    · rename_i hs
      obtain ⟨short, fresh⟩ := room p (same ▸ hs)
      rw [queueAt_joined (same ▸ short) (same ▸ fresh), State.onPort, State.onPort, Port.told, if_pos hs]
    · rename_i hs
      rw [State.onPort, Port.told, if_neg hs, PerPort.set_get]
  rw [hears (p := .sp0), hears (p := .sp1), hears (p := .sp2)] <;> rfl

/-- R169: a PROFILE_READY takes the place of the oldest one whose sending has not begun. -/
theorem Port.queue_replaces {older newer : List Notice} {old : Notice}
    (waiting : q.unbegun = older ++ old :: newer) (hn : n.isProfileReady = true) (hold : old.isProfileReady = true)
    (others : ∀ x ∈ older, x.isProfileReady = false) :
    q.queue n = { q with notices := q.begun ++ older ++ newer ++ [n] } := by
  have replaces : q.replaces n = true := by simp [Port.replaces, hn, hold, waiting]
  have left : (older ++ old :: newer).eraseP Notice.isProfileReady = older ++ newer := by
    rw [List.eraseP_append_right _ (by simpa using others), List.eraseP_cons_of_pos hold]
  simp only [Port.queue, replaces, if_true, waiting, left, List.append_assoc]

end Sys2Proof.Machine
end

section
open Sys2Proof Sys2Proof.Machine

/-- Settles O8: the queues that a notice joins, the notice that a PROFILE_READY replaces, and SUBSCRIBE by its mask. -/
theorem noticesFollowTheSubscriptions : Obligations.NoticesFollowTheSubscriptions := by
  refine ⟨fun n s _ room => ?_, fun p n s hn room => ?_, fun q n old first older newer hf split hn hold others => ?_,
    fun p tag mask s h => ⟨fun hm => ?_, fun hm => ?_⟩⟩
  · refine notify_told fun p hp => ?_
    obtain ⟨short, fresh⟩ := room p hp
    exact ⟨short, Port.replaces_eq_false (by rwa [Port.unbegun_eq])⟩
  · refine queueAt_joined room (Port.replaces_eq_false fun ready => ?_)
    cases n <;> cases ready
    cases hn
  · rw [← Port.begun_eq] at hf
    have waiting : q.unbegun = older ++ old :: newer := by
      have whole := q.begun_append_unbegun
      rw [split, hf, List.append_assoc] at whole
      exact List.append_cancel_left whole
    rw [hf]
    exact Port.queue_replaces waiting hn hold others
  · refine congrArg _ (requestArrives_replied (r := .subscribe mask) h tag rfl ?_)
    exact if_neg (by omega)
  · refine congrArg _ (requestArrives_replied (r := .subscribe mask) h tag rfl ?_)
    exact if_pos hm
end

section
/-! ## Proofs: the requests that write staging lists (R141, R142) -/

namespace Sys2Proof.Machine

variable {l : List Staged} {i : Item} {v : SetupValue} {p : PortId} {s : State}

theorem stage_replaces (held : ∃ e ∈ s.setup.staging.get p, e.item = i) (clamped : Bool) :
    stage p i v clamped s =
      (s.setStaging p ((s.setup.staging.get p).map fun e => if e.item = i then ⟨i, v⟩ else e),
        if clamped then .of .clamped (.stagedValue v) else .done) := by
  have any : (s.setup.staging.get p).any (fun e => decide (e.item = i)) = true := by simpa using held
  simp [stage, stagingFull, stageIn, any]

theorem stage_joins (absent : ¬ ∃ e ∈ s.setup.staging.get p, e.item = i)
    (room : (s.setup.staging.get p).length < 32) (clamped : Bool) :
    stage p i v clamped s =
      (s.setStaging p (s.setup.staging.get p ++ [⟨i, v⟩]),
        if clamped then .of .clamped (.stagedValue v) else .done) := by
  have none : (s.setup.staging.get p).any (fun e => decide (e.item = i)) = false := by simpa using absent
  simp [stage, stagingFull, stageIn, none, not_le.2 room]

theorem stage_full (absent : ¬ ∃ e ∈ s.setup.staging.get p, e.item = i)
    (full : ¬ (s.setup.staging.get p).length < 32) (clamped : Bool) :
    stage p i v clamped s = (s, .of .full (.stagingCount (s.setup.staging.get p).length)) := by
  have none : (s.setup.staging.get p).any (fun e => decide (e.item = i)) = false := by simpa using absent
  simp [stage, stagingFull, none, not_lt.1 full]

end Sys2Proof.Machine
end

section
open Sys2Proof Sys2Proof.Machine

/-- Settles O47: WRITE SETUP by what R138 makes of its value and R141 of the list, and DISCARD STAGING. -/
theorem stagingListsBelongToTheirPort : Obligations.StagingListsBelongToTheirPort := by
  refine ⟨fun p tag item value s h => ?_, fun p tag s h =>
    congrArg _ (requestArrives_replied (r := .discardStaging) h tag rfl rfl)⟩
  intro l keep put
  have answers {t : State} {code : RespCode} {body : RespBody}
      (k : takeWriteSetup p item value (taken p s) = (t, .of code body)) :
      exec (.writeSetup p tag item value) s = .next (replied p tag 13 code body t) :=
    congrArg _ (requestArrives_replied (r := .writeSetup item value) h tag rfl k)
  have kept {code : RespCode} {body : RespBody}
      (k : takeWriteSetup p item value (taken p s) = (taken p s, .of code body)) :
      exec (.writeSetup p tag item value) s = .next (keep code body) := answers k
  cases hi : Item.ofId item.toNat with
  | none => exact kept (by simp only [takeWriteSetup, hi, Answer.refusal])
  | some i =>
    dsimp only
    cases hv : checkValue i value with
    | malformed => exact kept (by simp only [takeWriteSetup, hi, hv, Answer.refusal])
    | badValue => exact kept (by simp only [takeWriteSetup, hi, hv, Answer.refusal])
    | staged v clamped =>
      have stages : takeWriteSetup p item value (taken p s) = stage p i v clamped (taken p s) := by
        simp only [takeWriteSetup, hi, hv]
      have staged {l' : List Staged} (k : stage p i v clamped (taken p s) = ((taken p s).setStaging p l',
          if clamped then .of .clamped (.stagedValue v) else .done)) :
          exec (.writeSetup p tag item value) s = .next (put l' v clamped) := by
        cases clamped <;> exact answers (stages.trans k)
      dsimp only
      by_cases held : ∃ e ∈ l, e.item = i
      · rw [if_pos held]
        exact staged (stage_replaces (s := taken p s) held clamped)
      rw [if_neg held]
      by_cases room : l.length < 32
      · rw [if_pos room]
        exact staged (stage_joins (s := taken p s) held room clamped)
      · rw [if_neg room]
        exact kept (stages.trans (stage_full (s := taken p s) held room clamped))
end

section
/-! ## Proofs: the frames of a master, read from the wire (R161, R162, R186) -/

namespace Sys2Proof

variable {payload : List Byte}

/-! ### Escaping (R186) -/

theorem unescape_cons {b : Byte} (h : b ≠ escapeByte) (rest : List Byte) :
    unescape (b :: rest) = (unescape rest).map (b :: ·) := by
  cases rest with
  | nil => simp [unescape, h]
  | cons c rest => simp [unescape, h]

theorem unescape_escape (body : List Byte) : unescape (escape body) = some body := by
  induction body with
  | nil => rfl
  | cons b rest ih =>
    unfold escape
    split
    · rename_i hd
      simp [unescape, ih, hd]
    · split
      · rename_i _ he
        simp [unescape, ih, he]
      · rename_i _ he
        simp [unescape_cons he, ih]

/-- R186: what is read between the delimiters of a body sent on the wire. -/
theorem readService_sealed (body : List Byte) : readService (sealed body) = readServiceFields body := by
  simp only [readService, bind_checked_some (unescape_escape _), sealed]

/-! ### Service frames (R161, R162) -/

/-- R161: the length field of a payload that fits holds its length. -/
theorem le16_length (fits : payload.length ≤ 512) :
    (le16 ((BitVec.ofNat 16 payload.length).extractLsb' 0 8) ((BitVec.ofNat 16 payload.length).extractLsb' 8 8)).toNat =
      payload.length := by
  rw [le16_bytes16, BitVec.toNat_ofNat]
  omega

theorem readServiceFields_request (tag : BitVec 8) (fits : payload.length ≤ 512) :
    readServiceFields (serviceBody 1 tag payload) = .request tag payload := by
  simp only [serviceBody, bytes16, List.cons_append, List.nil_append, readServiceFields, le16_length fits]
  simp [fits]

theorem readServiceFields_hold (tag : BitVec 8) (time : BitVec 16) :
    readServiceFields (serviceBody 5 tag (bytes16 time)) = .hold time := by
  simp [serviceBody, bytes16, readServiceFields]
  decide

theorem readServiceFields_portReset (tag : BitVec 8) : readServiceFields (serviceBody 6 tag []) = .portReset tag :=
  rfl

end Sys2Proof

open Sys2Proof Sys2Proof.Machine

/-- Settles O5: the body comes back from its escapes and its check, and is read by its kind. -/
theorem serviceFramesAreReadBack : Obligations.ServiceFramesAreReadBack := by
  intro p tag payload time fits
  refine ⟨⟨sealed (serviceBody 1 tag payload), rfl, delimiter_notMem_sealed _, ?_⟩,
    ⟨sealed (serviceBody 5 tag (bytes16 time)), rfl, delimiter_notMem_sealed _, ?_⟩,
    ⟨sealed (serviceBody 6 tag []), rfl, delimiter_notMem_sealed _, ?_⟩⟩
  · simp only [serviceCommand, readService_sealed, readServiceFields_request tag fits]
  · simp only [serviceCommand, readService_sealed, readServiceFields_hold]
  · simp only [serviceCommand, readService_sealed, readServiceFields_portReset]
end

section
/-! ## Proofs: a notice dropped at a full queue (R170, R171, R181) -/

namespace Sys2Proof.Machine

variable {q : Port} {n : Notice} {s : State} {p : PortId}

/-! ### The notice that is dropped (R170) -/

/-- R170: the one dropped is the oldest that is neither ALARM nor BREAK_STATE, and the oldest of all when every one
is. -/
theorem dropOne_split {l : List Notice} (h : l ≠ []) :
    ∃ (older newer : List Notice) (dropped : Notice), l = older ++ dropped :: newer ∧
      ((older.all Notice.protected = true ∧ dropped.protected = false) ∨
        (older = [] ∧ l.all Notice.protected = true)) ∧
      dropOne l = older ++ newer := by
  by_cases unprotected : l.any (fun n => !n.protected) = true
  · obtain ⟨m, hm, hp⟩ := List.any_eq_true.1 unprotected
    obtain ⟨dropped, older, newer, others, hd, split, left⟩ :=
      List.exists_of_eraseP (p := fun n => !n.protected) hm hp
    refine ⟨older, newer, dropped, split, .inl ⟨?_, by simpa using hd⟩, ?_⟩
    · simpa using others
    · rw [dropOne, if_pos unprotected, left]
  · obtain ⟨dropped, newer, rfl⟩ := List.exists_cons_of_ne_nil h
    refine ⟨[], newer, dropped, rfl, .inr ⟨rfl, by simpa using unprotected⟩, ?_⟩
    rw [dropOne, if_neg unprotected]
    rfl

/-- R170: a queue overflows exactly when it is full and the notice replaces none. -/
theorem Port.overflows_eq (fresh : q.replaces n = false) : q.overflows n = decide (16 ≤ q.notices.length) := by
  simp [Port.overflows, fresh]

/-- R169: a notice that replaces none finds no PROFILE_READY waiting, or is none itself. -/
theorem Port.replaces_eq_false_iff :
    q.replaces n = false ↔ ¬ (n.isProfileReady = true ∧ ∃ x ∈ q.unbegun, x.isProfileReady = true) := by
  simp [Port.replaces]

/-- R170, R171: a full queue less the notice dropped, with the overrun marker set. -/
theorem Port.queue_full (fresh : q.replaces n = false) (full : 16 ≤ q.notices.length) :
    q.queue n = { q with notices := q.begun ++ dropOne (q.unbegun ++ [n]), overrun := true,
                         sending := q.sending.map (fun x => { x with dropped := true }) } := by
  simp only [Port.queue, fresh, Bool.false_eq_true, if_false, full, if_true]

/-! ### The drop's count (R180, R181) -/

/-- R180: a count that would pass the top of the range wraps or freezes. -/
theorem countedValue_eq (mode : TallyMode) (v n : Nat) : countedValue mode v n =
    if v + n ≤ 4294967295 then v + n else if mode = .wrap then v + n - 4294967296 else 4294967295 := by
  cases mode <;> simp [countedValue]

/-- R181: a count of one crosses the half mark from the value just below it, and from no other. -/
theorem crossesHalf_one (mode : TallyMode) (v : Nat) : crossesHalf mode v 1 = decide (v = 2147483647) := by
  rw [crossesHalf, ← Bool.decide_and, decide_eq_decide]
  unfold countedValue halfMark
  constructor
  · rintro ⟨below, reached⟩
    rw [if_pos (by simp only [max32]; omega)] at reached
    omega
  · rintro rfl
    cases mode <;> decide

/-- R180: a count of one below the top of the range. -/
theorem countedValue_succ (mode : TallyMode) {v : Nat} (h : v < max32) : countedValue mode v 1 = v + 1 :=
  if_pos h

/-- R180: the state after a drop's count, with its half-mark flag as given. -/
def dropCounted (half : Bool) (s : State) : State :=
  let v := countedValue s.setup.active.tallyMode (s.tallies.get .noticesDropped).value 1
  { s with tallies := s.tallies.set .noticesDropped ⟨v, half⟩ }

/-- R180: a drop's count that does not cross. -/
theorem countDrop_short (h : (s.tallies.get .noticesDropped).value ≠ 2147483647) :
    countDrop s = dropCounted (s.tallies.get .noticesDropped).half s := by
  simp [countDrop, crosses, bump, crossesHalf_one, h, dropCounted]

/-- R181: a drop's count that crosses, with its mark at each subscribed port. -/
theorem countDrop_crosses (h : (s.tallies.get .noticesDropped).value = 2147483647) :
    countDrop s = atSubscribers 8
      (queueLast (.tallyMark .noticesDropped 2147483648 s.setup.active.tallyMode)) (dropCounted true s) := by
  have marked : countedValue s.setup.active.tallyMode 2147483647 1 = 2147483648 := countedValue_succ _ (by decide)
  simp [countDrop, crosses, bump, crossesHalf_one, h, dropCounted, tallyMarkOf, marked]

/-- R181: one port, when it is subscribed, takes the mark of the drops; a drop that the mark makes counts once more. -/
def dropsMarked (mark : Notice) (p : PortId) (s : State) : State :=
  let q := s.ports.get p
  if q.subscribed 8 then
    { s with
      ports := s.ports.set p (q.queue mark)
      tallies := if q.notices.length < 16 then s.tallies
        else s.tallies.set .noticesDropped ⟨(s.tallies.get .noticesDropped).value + 1, true⟩ }
  else s

/-- R181: the drops have crossed their half mark, and stand at most at this value. -/
def DropsCrossed (top : Nat) (s : State) : Prop :=
  (s.tallies.get .noticesDropped).half = true ∧ (s.tallies.get .noticesDropped).value ≤ top

theorem DropsCrossed.marked {top : Nat} (h : DropsCrossed top s) (mark : Notice) (p : PortId) :
    DropsCrossed (top + 1) (dropsMarked mark p s) := by
  obtain ⟨half, value⟩ := h
  unfold dropsMarked DropsCrossed
  dsimp only
  split
  · split
    · exact ⟨half, Nat.le_succ_of_le value⟩
    · simpa using value
  · exact ⟨half, by omega⟩

/-- R181: the mark joins a subscribed queue, a further drop being counted without a mark of its own. -/
theorem DropsCrossed.queueLast_eq {top : Nat} (h : DropsCrossed top s) (below : top < max32) {mark : Notice}
    (fresh : mark.isProfileReady = false) (p : PortId) :
    (if (s.ports.get p).subscribed 8 then queueLast mark p s else s) = dropsMarked mark p s := by
  obtain ⟨half, value⟩ := h
  have overflow := Port.overflows_eq (q := s.ports.get p) (n := mark) (by simp [Port.replaces, fresh])
  have counted := countedValue_succ s.setup.active.tallyMode (value.trans_lt below)
  unfold dropsMarked
  dsimp only
  split
  · by_cases room : (s.ports.get p).notices.length < 16
    · simp [queueLast, overflow, room, State.onPort]
    · simp [queueLast, overflow, room, not_lt.1 room, State.onPort, bump, counted, half]
  · rfl

/-- R181: the marks at the three ports, in the order of log entry 7. -/
theorem DropsCrossed.atSubscribers_eq {top : Nat} (h : DropsCrossed top s) (below : top + 2 < max32) {mark : Notice}
    (fresh : mark.isProfileReady = false) :
    atSubscribers 8 (queueLast mark) s =
      dropsMarked mark .sp2 (dropsMarked mark .sp1 (dropsMarked mark .sp0 s)) := by
  unfold atSubscribers
  extract_lets one
  have marks {u : State} {top : Nat} (h : DropsCrossed top u) (below : top < max32) (p : PortId) :
      one p u = dropsMarked mark p u := h.queueLast_eq below fresh p
  have first := h.marked mark .sp0
  rw [marks h (by omega) .sp0, marks first (by omega) .sp1, marks (first.marked mark .sp1) below .sp2]

/-- R170: a notice queued at a full port drops one, which is counted. -/
theorem queueAt_full (fresh : (s.ports.get p).replaces n = false) (full : 16 ≤ (s.ports.get p).notices.length) :
    queueAt n p s = countDrop (s.onPort p (fun q => q.queue n)) := by
  simp only [queueAt, Port.overflows_eq fresh, full, decide_true, if_true]

end Sys2Proof.Machine

open Sys2Proof Sys2Proof.Machine

/-- Settles O9: the notice dropped by the split of the queue, and the drop's count by whether it crosses. -/
theorem overflowDropsOneNotice : Obligations.OverflowDropsOneNotice := by
  refine ⟨fun q n first rest hf split full joins => ?_, fun p n s full => ?_⟩
  · rw [← Port.begun_eq] at hf
    have unbegun : q.unbegun = rest := by
      have whole := q.begun_append_unbegun
      rw [split, hf] at whole
      exact List.append_cancel_left whole
    subst hf
    rw [← unbegun] at joins ⊢
    obtain ⟨older, newer, dropped, whole, oldest, left⟩ := dropOne_split (l := q.unbegun ++ [n]) (by simp)
    refine ⟨older, newer, dropped, whole, oldest, ?_⟩
    rw [Port.queue_full (Port.replaces_eq_false_iff.2 joins) full.ge, left, List.append_assoc]
  · intro q waiting joins mode v v' counted mark told
    have fresh : q.replaces n = false := Port.replaces_eq_false_iff.2 (by rwa [Port.unbegun_eq])
    have drops := queueAt_full fresh full.ge
    have counts (half : Bool) : dropCounted half (s.onPort p (fun q => q.queue n)) = counted half := by
      rw [dropCounted, countedValue_eq]
      rfl
    refine ⟨fun short => ?_, fun crosses _ => ?_⟩
    · exact drops.trans ((countDrop_short (s := s.onPort p _) short).trans (counts _))
    · have crossed : DropsCrossed 2147483648 (counted true) := by
        rw [← counts, dropCounted, DropsCrossed]
        simp only [State.onPort_tallies, State.onPort_setup, TallyBank.get_set_self, true_and]
        rw [show (s.tallies.get .noticesDropped).value = 2147483647 from crosses, countedValue_succ _ (by decide)]
      have marked := crossed.atSubscribers_eq (mark := mark) (by decide) rfl
      refine drops.trans ((countDrop_crosses (s := s.onPort p _) crosses).trans ?_)
      exact (congrArg _ (counts true)).trans marked
end

section
/-! ## Proofs: the frame that a port's sender takes (R166, R167, R171) -/

namespace Sys2Proof.Machine

variable {q : Port}

/-- R167: a sender that is busy, or whose link is DOWN, takes no frame. -/
theorem Port.startSend_stays (h : q.linkUp = false ∨ q.sending.isSome = true) : q.startSend = q := by
  unfold Port.startSend
  rcases h with down | busy
  · simp [down]
  · have taken : q.sending.isNone = false := by simp [Option.isNone_eq_false_iff, busy]
    simp [taken]

/-- R167: a free sender at an UP port takes the frame that is next. -/
theorem Port.startSend_free (up : q.linkUp = true) (free : q.sending = none) :
    q.startSend = { q with sending := q.nextFrame } := by
  simp [Port.startSend, up, free]

/-- R167: a free sender for which no frame is next stays free. -/
theorem Port.startSend_none (up : q.linkUp = true) (free : q.sending = none) (h : q.nextFrame = none) :
    q.startSend = q := by
  rw [Port.startSend_free up free, h, ← free]

end Sys2Proof.Machine

open Sys2Proof Sys2Proof.Machine

/-- Settles O11: the frame that is next, list by list in the order of R167. -/
theorem senderTakesTheFirstWaitingFrame : Obligations.SenderTakesTheFirstWaitingFrame := by
  refine fun q => ⟨Port.startSend_stays, fun up free => ?_⟩
  intro takes
  have next {f : TxFrame} {src : TxSource} (h : q.nextFrame = some ⟨f, src, false⟩) : takes f src :=
    (Port.startSend_free up free).trans (by rw [h])
  have stays (h : q.nextFrame = none) : q.startSend = q := Port.startSend_none up free h
  refine ⟨fun tag answer => ?_, fun time rest answer holds => ?_, fun answer holds => ⟨fun held => ?_, fun held =>
    ⟨fun r rest refusals => ?_, fun f rest moving refusals engine => ?_, fun n rest refusals engine notices => ?_,
    fun refusals engine notices => ?_⟩⟩⟩
  · exact next (by simp only [Port.nextFrame, answer])
  · exact next (by simp only [Port.nextFrame, answer, holds])
  · exact stays (by simp only [Port.nextFrame, answer, holds, held, if_true])
  · exact next (by simp [Port.nextFrame, answer, holds, held, refusals])
  · exact next (by simp [Port.nextFrame, answer, holds, held, refusals, engine])
  · exact next (by simp [Port.nextFrame, answer, holds, held, refusals, engine, notices])
  · exact stays (by simp [Port.nextFrame, answer, holds, held, refusals, engine, notices])
end

section
/-! ## Proofs: requests in their payloads (R163, R165, R187) -/

namespace Sys2Proof

/-! ### The fields of a request, read back -/

theorem parsePoints_bytes (points : List (BitVec 16)) : parsePoints (points.flatMap bytes16) = some points := by
  induction points with
  | nil => rfl
  | cons v points ih =>
    change (parsePoints (points.flatMap bytes16)).map _ = _
    rw [ih, le16_bytes16]
    rfl

/-- R187: a value of its item's form is read back from its bytes. -/
theorem parseOffered_encode {item : BitVec 8} {i : Item} (hi : Item.ofId item.toNat = some i) {value : Offered}
    (fits : value.fits i.shape = true) : parseOffered item (encodeOffered value) = some value := by
  unfold parseOffered
  rw [hi, Option.map_some]
  cases value <;> cases hs : i.shape <;> rw [hs] at fits
  all_goals simp only [Offered.fits, Bool.false_eq_true] at fits
  case scalar.scalar v lo hi => simp [encodeOffered, bytes32]
  case code.enumerated => rfl
  case curve.curve points count top rising =>
    have short : points.length < 256 := by simpa using Nat.lt_succ_of_le (of_decide_eq_true fits)
    simp [encodeOffered, parsePoints_bytes, Nat.mod_eq_of_lt short]

theorem parseFlag_encode (b : Bool) : parseFlag (if b then 1 else 0) = some b := by cases b <;> rfl

/-- R165, R187: the fields of a request that a payload can spell are read back under its code. -/
theorem parseFields_encodeFields (r : Request) (h : r.wellFormed = true) :
    parseFields r.code.toNat (encodeFields r) = some r := by
  cases r with
  | dwellAt pos => exact congrArg (fun v => some (Request.dwellAt v)) (le16_bytes16 pos)
  | readProfile sel kinds forms first last =>
    have selected (sel : ScanSelector) : some (Request.readProfile sel kinds forms
        (le16 (first.extractLsb' 0 8) (first.extractLsb' 8 8)) (le16 (last.extractLsb' 0 8) (last.extractLsb' 8 8))) =
        some (.readProfile sel kinds forms first last) := by
      rw [le16_bytes16, le16_bytes16]
    cases sel with
    | latest => exact selected .latest
    | number n => exact (selected (.number (le32 _ _ _ _))).trans (by rw [le32_bytes32])
  | acknowledgeAlarm id => exact congrArg (fun v => some (Request.acknowledgeAlarm v)) (le16_bytes16 id)
  | writeSetup item value =>
    obtain ⟨known, fits⟩ := Bool.and_eq_true_iff.1 h
    obtain ⟨i, hi⟩ := Option.isSome_iff_exists.1 known
    rw [offeredFits, hi] at fits
    exact congrArg (Option.map (Request.writeSetup item)) (parseOffered_encode hi fits)
  | commitSetup target =>
    cases target with
    | next => rfl
    | scan n => exact congrArg (fun v => some (Request.commitSetup (.scan v))) (le32_bytes32 n)
  | subscribe mask => exact congrArg (fun v => some (Request.subscribe v)) (le16_bytes16 mask)
  | readTallies mask clear =>
    show (parseFlag _).map (Request.readTallies (le16 _ _)) = _
    rw [le16_bytes16, parseFlag_encode]
    rfl
  | malformed code => cases h
  | _ => rfl

/-- R165: every request that a payload can spell is read back from its payload. -/
theorem parseRequest_encodeRequest {r : Request} (h : r.wellFormed = true) : parseRequest (encodeRequest r) = r := by
  simp only [encodeRequest, parseRequest, parseFields_encodeFields r h, Option.getD_some]

/-! ### The request of a payload (R165) -/

/-- A parse that gives requests of this code, and never a failed one. -/
def GivesCode (code : Nat) (parse : Option Request) : Prop :=
  ∀ r, parse = some r → r.code.toNat = code ∧ ∀ c, r ≠ .malformed c

theorem GivesCode.none (code : Nat) : GivesCode code none := nofun

theorem GivesCode.some {code : Nat} {r : Request} (hc : r.code.toNat = code) (h : ∀ c, r ≠ .malformed c) :
    GivesCode code (some r) := by
  rintro _ ⟨⟩
  exact ⟨hc, h⟩

theorem GivesCode.map {α : Type} {code : Nat} (parse : Option α) {f : α → Request}
    (h : ∀ a, (f a).code.toNat = code ∧ ∀ c, f a ≠ .malformed c) : GivesCode code (parse.map f) := by
  intro r hr
  obtain ⟨a, _, rfl⟩ := Option.map_eq_some_iff.1 hr
  exact h a

/-- R165: what parses is a request of the code it stands under; each code's list of fields has a length of its own. -/
theorem parseFields_givesCode (code : Nat) (fields : List Byte) : GivesCode code (parseFields code fields) := by
  match code with
  | 0 | _ + 20 => exact .none _
  | 1 | 2 | 4 | 5 | 6 | 7 | 9 | 10 | 11 | 15 | 19 =>
    match fields with
    | [] => exact .some rfl nofun
    | _ :: _ => exact .none _
  | 3 | 12 | 14 | 17 =>
    match fields with
    | [_, _] => exact .some rfl nofun
    | [] | [_] | _ :: _ :: _ :: _ => exact .none _
  | 8 =>
    match fields with
    | [_, _, _, _, _, _, _, _, _, _, _] => exact .map _ fun _ => ⟨rfl, nofun⟩
    | [] | [_] | [_, _] | [_, _, _] | [_, _, _, _] | [_, _, _, _, _] | [_, _, _, _, _, _] | [_, _, _, _, _, _, _]
    | [_, _, _, _, _, _, _, _] | [_, _, _, _, _, _, _, _, _] | [_, _, _, _, _, _, _, _, _, _]
    | _ :: _ :: _ :: _ :: _ :: _ :: _ :: _ :: _ :: _ :: _ :: _ :: _ => exact .none _
  | 13 =>
    match fields with
    | [] => exact .none _
    | _ :: _ => exact .map _ fun _ => ⟨rfl, nofun⟩
  | 16 =>
    match fields with
    | [_, _, _, _, _] => exact .map _ fun _ => ⟨rfl, nofun⟩
    | [] | [_] | [_, _] | [_, _, _] | [_, _, _, _] | _ :: _ :: _ :: _ :: _ :: _ :: _ => exact .none _
  | 18 =>
    match fields with
    | [_, _, _] => exact .map _ fun _ => ⟨rfl, nofun⟩
    | [] | [_] | [_, _] | _ :: _ :: _ :: _ :: _ => exact .none _

/-- R165: a payload's request carries its first byte as its code, also where it does not parse. -/
theorem parseRequest_cons (c : Byte) (fields : List Byte) :
    (parseRequest (c :: fields)).code = c ∧ ∀ b, parseRequest (c :: fields) = .malformed b → b = some c := by
  change ((parseFields c.toNat fields).getD _).code = c ∧ ∀ b, (parseFields c.toNat fields).getD _ = _ → _
  cases h : parseFields c.toNat fields with
  | none => exact ⟨rfl, fun _ hb => (Request.malformed.inj hb).symm⟩
  | some r =>
    obtain ⟨code, parsed⟩ := parseFields_givesCode _ _ r h
    exact ⟨BitVec.eq_of_toNat_eq code, fun b hb => absurd hb (parsed b)⟩

/-- R165: a payload that does not parse is the request to answer it MALFORMED. -/
theorem parseRequest_malformed {payload : List Byte} (h : isMalformed payload = true) :
    parseRequest payload = .malformed payload.head? := by
  cases payload with
  | nil => rfl
  | cons c fields =>
    unfold isMalformed at h
    split at h
    · rename_i b hb
      rw [hb, (parseRequest_cons c fields).2 b hb]
      rfl
    · cases h

namespace Machine

variable {p : PortId} {s : State}

/-- R165: every answer but that to an empty payload carries the request's own code, and uses up no free value. -/
theorem answerCode_eq {r : Request} (h : r ≠ .malformed none) (free : Nat) :
    answerCode r free = r.code ∧ codeUses r = 0 := by
  unfold answerCode codeUses
  split
  · exact absurd rfl h
  · exact ⟨rfl, rfl⟩

/-- R165: the answer to a payload that has a first byte echoes it. -/
theorem answerCode_parseRequest (c : Byte) (fields : List Byte) (free : Nat) :
    answerCode (parseRequest (c :: fields)) free = c ∧ codeUses (parseRequest (c :: fields)) = 0 := by
  obtain ⟨code, bad⟩ := parseRequest_cons c fields
  obtain ⟨echo, uses⟩ := answerCode_eq (fun h => nomatch bad none h) free
  exact ⟨echo.trans code, uses⟩

/-- R163: the REQUEST frame that carries a request is its arrival. -/
theorem exec_requestArrival_encodeRequest (p : PortId) (tag : BitVec 8) {r : Request} (h : r.wellFormed = true)
    (s : State) : exec (.requestArrival p tag (encodeRequest r)) s = .next (requestArrives p ⟨tag, r⟩ s) :=
  congrArg (fun r => Host.Outcome.next (requestArrives p ⟨tag, r⟩ s)) (parseRequest_encodeRequest h)

/-- R165: an empty payload is answered MALFORMED with a free value for its code (log entry 10). -/
theorem requestArrives_empty (h : TakesAtOnce p s) (tag : BitVec 8) :
    requestArrives p ⟨tag, .malformed none⟩ s =
      { replied p tag (Config.emptyRequestCode s.freeCount) .malformed .empty (taken p s) with
        freeCount := s.freeCount + 1 } :=
  requestArrives_taken p _ s h

end Machine

end Sys2Proof

open Sys2Proof Sys2Proof.Machine

/-- Settles O50: each row is its request's arrival, the request being read back from its payload. -/
theorem requestRowsAreArrivals : Obligations.RequestRowsAreArrivals := by
  intro p tag s arrival
  have row {r : Request} (h : r.wellFormed = true) : .next (requestArrives p ⟨tag, r⟩ s) = arrival r :=
    (exec_requestArrival_encodeRequest p tag h s).symm
  refine ⟨row rfl, row rfl, fun _ => row rfl, row rfl, row rfl, row rfl, row rfl, fun _ _ _ _ _ => row rfl, row rfl,
    row rfl, row rfl, fun _ => row rfl, fun _ _ h => row h, fun _ _ => row rfl, row rfl, fun _ => row rfl,
    fun _ => row rfl, fun _ _ => row rfl, row rfl, fun payload h => ?_, fun h => ⟨fun c fields => ?_, ?_⟩⟩
  · have malformed := parseRequest_malformed (Bool.and_eq_true_iff.1 h).2
    exact congrArg (fun r => Host.Outcome.next (requestArrives p ⟨tag, r⟩ s)) malformed.symm
  · exact congrArg _ (requestArrives_replied (r := .malformed (some c)) h tag rfl rfl)
  · exact ⟨_, congrArg _ (requestArrives_empty h tag)⟩
end

section
/-! ## Proofs: requests that arrive while the engine is busy (R163, R164) -/

namespace Sys2Proof.Machine

variable {p : PortId} {s : State} {r : Queued}

theorem Port.holdAtArrival_engine (a : Setup) (q : Port) : (q.holdAtArrival a).engine = q.engine := by
  unfold Port.holdAtArrival
  split <;> rfl

/-- R163: with the engine busy and room in the queue, the request waits. -/
theorem arrive_queued (busy : (s.ports.get p).engine.isSome = true) (room : (s.ports.get p).inbound.length < 8) :
    arrive p r s = enqueue p r s := by
  have stays : pump p (enqueue p r s) = enqueue p r s :=
    pump_waits (.inl (by simpa [enqueue, Port.holdAtArrival_engine] using busy))
  have taken : (s.ports.get p).engine ≠ none := Option.isSome_iff_ne_none.1 busy
  simp only [arrive, taken, and_false, if_false, room, if_true, stays]

/-- R163: with the engine busy and the queue full, the request is refused. -/
theorem arrive_refused (busy : (s.ports.get p).engine.isSome = true) (full : (s.ports.get p).inbound.length = 8) :
    arrive p r s = refuseFull p r s := by
  have stays : pump p (refuseFull p r s) = refuseFull p r s := by
    refine pump_waits (.inl ?_)
    unfold refuseFull
    split
    · exact busy
    · simpa using busy
  have taken : (s.ports.get p).engine ≠ none := Option.isSome_iff_ne_none.1 busy
  simp only [arrive, taken, and_false, if_false, full, lt_irrefl, stays]

/-- R163: an arrival at an UP port. -/
theorem exec_requestArrival_up (up : (s.ports.get p).linkUp = true) (tag : BitVec 8) (payload : List Byte) :
    exec (.requestArrival p tag payload) s = .next (settle (arrive p ⟨tag, parseRequest payload⟩ s)) :=
  congrArg Host.Outcome.next (if_pos up)

end Sys2Proof.Machine

open Sys2Proof Sys2Proof.Machine

/-- Settles O51: the request waits or is refused by the occupancy, and the hold is sent by the threshold. -/
theorem arrivalsQueueOrAreRefused : Obligations.ArrivalsQueueOrAreRefused := by
  intro p tag c fields s up busy q a arrives queued held refused
  have waits (room : q.inbound.length < 8) {q' : Port} (h : queued.holdAtArrival a = q') :
      arrives = .next (settle { s with ports := s.ports.set p q' }) := by
    subst h
    exact (exec_requestArrival_up up tag _).trans (by rw [arrive_queued busy room]; rfl)
  have refuses (full : q.inbound.length = 8) {t : State} (h : refuseFull p ⟨tag, parseRequest (c :: fields)⟩ s = t) :
      arrives = .next (settle t) :=
    (exec_requestArrival_up up tag _).trans (by rw [arrive_refused busy full, h])
  refine ⟨fun room quiet => waits room ?_, fun room flag reached => waits room ?_, fun full short => refuses full ?_,
    fun full wait => refuses full ?_⟩
  · refine if_neg fun h => ?_
    obtain ⟨clear, reached⟩ := Bool.and_eq_true_iff.1 h
    rcases quiet with flag | short
    · simp [queued, flag] at clear
    · simp [queued] at reached
      omega
  · refine if_pos ?_
    simpa [queued, flag] using reached
  · obtain ⟨echo, uses⟩ := answerCode_parseRequest c fields s.freeCount
    rw [refuseFull, if_neg (not_le.2 short)]
    rw [echo, uses, full]
    rfl
  · exact if_pos wait.ge
end

section
/-! ## Proofs: the holds of one port (R164, R166, R177) -/

namespace Sys2Proof.Machine

variable {p : PortId} {s : State}

/-- R166: a HOLD at an UP port. -/
theorem exec_hold_up (up : (s.ports.get p).linkUp = true) (time : BitVec 16) : exec (.hold p time) s =
    .next (settle (s.onPort p (Port.masterHolds time.toNat (expiryWaits p s)))) :=
  if_pos up

/-- R166: an expiry of a master hold timer that runs, or that a HOLD has overtaken. -/
theorem exec_masterHoldExpiry_due (h : (s.ports.get p).masterHold.isSome = true ∨ (s.ports.get p).overtaken = true) :
    exec (.masterHoldExpiry p) s = .next (settle (s.onPort p Port.masterExpires)) := by
  refine if_neg ?_
  rcases h with runs | overtaken
  · simp [Option.isSome_iff_ne_none.1 runs]
  · simp [overtaken]

/-- R164: an expiry of a part hold timer that runs. -/
theorem exec_partHoldExpiry_runs (h : (s.ports.get p).partTimer.isSome = true) :
    exec (.partHoldExpiry p) s = .next (settle (s.onPort p (Port.renewHold s.setup.active))) :=
  if_neg (by simp [Option.isSome_iff_ne_none.1 h])

/-- R177: whether an expiry of the port's master hold waits in the queue (log entry 34). -/
theorem expiryWaits_iff : expiryWaits p s = true ↔ ∃ c ∈ s.pending, c = .masterHoldExpiry p := by
  simp [expiryWaits]

/-- R166: a HOLD that restarts no timer with an expiry waiting. -/
theorem Port.masterHolds_alone (q : Port) {time : BitVec 16} {waits : Bool}
    (h : waits = false ∨ q.masterHold = none ∨ time = 0) : q.masterHolds time.toNat waits =
      { q with masterHold := if time = 0 then none else some time.toNat } := by
  have zero : time.toNat = 0 ↔ time = 0 := by simp [← BitVec.toNat_inj]
  unfold Port.masterHolds
  rcases h with h | h | h <;> simp [h, zero]

/-- R177: a HOLD that restarts the timer while an expiry of it waits. -/
theorem Port.masterHolds_overtakes (q : Port) {time : BitVec 16} (held : q.masterHold.isSome = true)
    (renews : time ≠ 0) :
    q.masterHolds time.toNat true = { q with masterHold := some time.toNat, overtaken := true } := by
  have zero : time.toNat ≠ 0 := fun h => renews (BitVec.eq_of_toNat_eq h)
  simp only [Port.masterHolds, zero, held, if_false, decide_not, decide_false, Bool.not_false,
    Bool.and_self, Bool.or_true]

end Sys2Proof.Machine

open Sys2Proof Sys2Proof.Machine

/-- Settles O52: what each event makes of its port. -/
theorem holdsPauseOnePort : Obligations.HoldsPauseOnePort := by
  intro p s q a leaves
  have onPort {f : Port → Port} {q' : Port} (h : f q = q') :
      Host.Outcome.next (settle (s.onPort p f)) = leaves q' := by
    subst h
    rfl
  refine ⟨fun time up => ?_, fun fresh held => ?_, fun fresh stopped => ?_, fun overtaken => ?_, fun runs reached => ?_,
    fun runs below => ?_⟩
  · refine ⟨fun alone => ?_, fun waits held renews => ?_⟩
    · rw [← expiryWaits_iff, Bool.not_eq_true] at alone
      exact (exec_hold_up up time).trans (onPort (q.masterHolds_alone alone))
    · refine (exec_hold_up up time).trans (onPort ?_)
      rw [expiryWaits_iff.2 waits]
      exact q.masterHolds_overtakes held renews
  · exact (exec_masterHoldExpiry_due (.inl held)).trans (onPort (if_neg (ne_true_of_eq_false fresh)))
  · have idle : (q.masterHold.isNone && !q.overtaken) = true := by rw [stopped, fresh]; rfl
    exact if_pos idle
  · exact (exec_masterHoldExpiry_due (.inr overtaken)).trans (onPort (if_pos overtaken))
  · exact (exec_partHoldExpiry_runs runs).trans (onPort (if_pos reached))
  · exact (exec_partHoldExpiry_runs runs).trans (onPort (if_neg (not_le.2 below)))
end

section
/-! ## Proofs: the counts of the tallies (R180, R181) -/

namespace Sys2Proof.Machine

variable {id : TallyId} {amount : Nat} {s : State}

/-- R181: a count crosses the half mark when it leads from below it to it or past it. -/
theorem crosses_iff : crosses id amount s = true ↔ (s.tallies.get id).value < 2147483648 ∧
    2147483648 ≤ countedValue s.setup.active.tallyMode (s.tallies.get id).value amount :=
  Bool.and_eq_true_iff.trans (and_congr decide_eq_true_iff decide_eq_true_iff)

/-- R181: a count that crosses sets the flag and queues the mark with the value after the count. -/
theorem count_crossing {v : Nat} (counted : countedValue s.setup.active.tallyMode (s.tallies.get id).value amount = v)
    (h : crosses id amount s = true) : count id amount s =
      notify (.tallyMark id v s.setup.active.tallyMode) { s with tallies := s.tallies.set id ⟨v, true⟩ } := by
  subst counted
  have half : crossesHalf s.setup.active.tallyMode (s.tallies.get id).value amount = true := h
  simp only [count, h, if_true, bump, tallyMarkOf, TallyBank.get_set_self, half, Bool.or_true]

/-- R180: any other count leaves the flag as it is and queues nothing. -/
theorem count_not_crossing {v : Nat}
    (counted : countedValue s.setup.active.tallyMode (s.tallies.get id).value amount = v)
    (h : crosses id amount s = false) :
    count id amount s = { s with tallies := s.tallies.set id ⟨v, (s.tallies.get id).half⟩ } := by
  subst counted
  have half : crossesHalf s.setup.active.tallyMode (s.tallies.get id).value amount = false := h
  simp only [count, h, Bool.false_eq_true, if_false, bump, half, Bool.or_false]

end Sys2Proof.Machine

open Sys2Proof Sys2Proof.Machine

/-- Settles O10: the value after the count, by whether the count crosses the half mark. -/
theorem countsFollowTheTallyMode : Obligations.CountsFollowTheTallyMode := by
  intro id amount s v mode v' counted
  have value : countedValue mode v amount = v' := countedValue_eq mode v amount
  have crossing : crosses id amount s = true ↔ v < 2147483648 ∧ 2147483648 ≤ v' := value ▸ crosses_iff
  refine ⟨fun h => count_crossing value (crossing.2 h), fun h => ?_, fun hd => ⟨?_, onlyNotices_count id amount s⟩⟩
  · exact count_not_crossing value (Bool.eq_false_iff.2 (mt crossing.1 h))
  · have flag : crossesHalf mode v amount = decide (v < 2147483648 ∧ 2147483648 ≤ v') :=
      Bool.eq_iff_iff.2 (crossing.trans decide_eq_true_iff.symm)
    rw [count_get id amount s hd, value, flag]
end

section
/-! ## Proofs: READ TALLIES and CLEAR TALLIES (R182 to R184) -/

namespace Sys2Proof.Machine

/-- Tallies of the bank changed one after the other: each one named is changed once, and no other. -/
theorem TallyBank.get_foldl_set (f : Tally → Tally) {ids : List TallyId} (distinct : ids.Nodup) (b : TallyBank)
    (id : TallyId) : (ids.foldl (fun b id => b.set id (f (b.get id))) b).get id =
      if id ∈ ids then f (b.get id) else b.get id := by
  induction distinct generalizing b with
  | nil => rfl
  | @cons first rest others _ ih =>
    rw [List.foldl_cons, ih]
    by_cases e : id = first
    · subst e
      have once : id ∉ rest := fun m => others id m rfl
      simp [once]
    · rw [TallyBank.get_set_other _ _ _ _ e]
      simp [e]

theorem mem_maskTallies {mask : BitVec 16} {id : TallyId} :
    id ∈ maskTallies mask ↔ mask.getLsbD (id.id - 1) = true := by
  simp [maskTallies, id.mem_all]

theorem maskTallies_nodup (mask : BitVec 16) : (maskTallies mask).Nodup :=
  List.Nodup.filter _ (by decide)

/-- R180: a tally stands frozen at the top of the range. -/
theorem Tally.frozen_eq (mode : TallyMode) (t : Tally) :
    t.frozen mode = decide (mode = .freeze ∧ t.value = 4294967295) :=
  (Bool.decide_and _ _).symm

/-- R182 steps 2 and 3: the bank after a read of the tallies that a mask names. -/
def bankRead (mask : BitVec 16) (clear : Bool) (s : State) : TallyBank :=
  (maskTallies mask).foldl (fun b id => b.set id (readTally s.setup.active.tallyMode clear (b.get id))) s.tallies

theorem bankRead_get (mask : BitVec 16) (clear : Bool) (s : State) (id : TallyId) :
    (bankRead mask clear s).get id =
      if mask.getLsbD (id.id - 1) then readTally s.setup.active.tallyMode clear (s.tallies.get id)
      else s.tallies.get id := by
  rw [bankRead, TallyBank.get_foldl_set _ (maskTallies_nodup mask)]
  simp only [mem_maskTallies]

/-- R184: the cleared bank, tally by tally. -/
theorem TallyBank.zero_get (id : TallyId) : TallyBank.zero.get id = ⟨0, false⟩ := by
  cases id <;> rfl

end Sys2Proof.Machine

open Sys2Proof Sys2Proof.Machine

/-- Settles O49: READ TALLIES by its mask, the bank it leaves being read back tally by tally, and CLEAR TALLIES. -/
theorem talliesAreReadAndCleared : Obligations.TalliesAreReadAndCleared := by
  refine ⟨fun p tag mask clear s h => ?_, fun p tag s h => ⟨.zero, TallyBank.zero_get, ?_⟩⟩
  · intro mode frozen
    have answers {t : State} {code : RespCode} {body : RespBody}
        (k : takeReadTallies mask clear (taken p s) = (t, .of code body)) :
        exec (.readTallies p tag mask clear) s = .next (replied p tag 18 code body t) :=
      congrArg _ (requestArrives_replied (r := .readTallies mask clear) h tag rfl k)
    have froze (id : TallyId) : (s.tallies.get id).frozen mode = frozen id := Tally.frozen_eq _ _
    refine ⟨fun bad => answers (if_pos bad), fun ⟨named, narrow⟩ => ⟨bankRead mask clear s, fun id => ?_, answers ?_⟩⟩
    · rw [bankRead_get, readTally, froze]
    · have captured : captureTally clear (taken p s) = fun id =>
          ⟨id, (s.tallies.get id).value, (s.tallies.get id).half, frozen id, clear || frozen id⟩ := by
        funext id
        rw [← froze id]
        rfl
      rw [← captured]
      exact if_neg (not_or.2 ⟨named, not_le.2 narrow⟩)
  · exact congrArg _ (requestArrives_replied (r := .clearTallies) h tag rfl rfl)
end

section
/-! ## Proofs: the payloads of a master and the frames of the head, read back (R187, R188) -/

namespace Sys2Proof

/-- R186: what is read on the carriage link between the delimiters of a body sent on the wire. -/
theorem carriageCommand_sealed (body : List Byte) : carriageCommand (sealed body) = readCarriageFields body := by
  simp only [carriageCommand, sealed, bind_checked_some (unescape_escape _)]

/-- R188: only SAMPLE, ARRIVED and HEAD_STATUS have a body, and its type byte and length lead back to the command. -/
theorem readCarriageFields_encodeHead {c : Instr} {body : List Byte} (sent : encodeHead c = some body) :
    readCarriageFields body = c := by
  cases c with
  | sample f => exact Laws.HeadFrames.sample f body sent
  | arrived number pos => exact Laws.HeadFrames.arrived number pos body sent
  | headStatus flags => exact Laws.HeadFrames.headStatus flags body sent
  | _ => cases sent

end Sys2Proof

open Sys2Proof Sys2Proof.Machine

/-- Settles O4: the code byte chooses the layout, and the fields are read back request by request. -/
theorem requestPayloadsAreReadBack : Obligations.RequestPayloadsAreReadBack :=
  fun _ spelled => parseRequest_encodeRequest spelled

/-- Settles O6: the body comes back from its escapes and its check, and is read by its type. -/
theorem carriageFramesAreReadBack : Obligations.CarriageFramesAreReadBack := by
  intro c body sent
  exact ⟨sealed body, rfl, delimiter_notMem_sealed body,
    (carriageCommand_sealed body).trans (readCarriageFields_encodeHead sent)⟩
end

section
/-! ## Proofs: one step and the queue (log entry 1) -/

namespace Sys2Proof.Machine

/-- Log entry 1: the command at the front runs in the state with the rest of the queue. -/
theorem step_of_pending_cons {s : State} {c : Instr} {rest : List Instr} (h : s.pending = c :: rest) :
    step s = exec c { s with pending := rest } := by
  rw [step, h]

/-- Log entry 1: without a command the part idles. -/
theorem step_of_pending_nil {s : State} (h : s.pending = []) : step s = .next s := by
  rw [step, h]

end Sys2Proof.Machine

open Sys2Proof Sys2Proof.Machine

/-- Settles O1: by the queue, with a command at its front or empty. -/
theorem stepRunsTheFrontCommand : Obligations.StepRunsTheFrontCommand :=
  fun _ => ⟨fun _ _ front => step_of_pending_cons front, fun idle => step_of_pending_nil idle⟩
end
